-- ==== Sys2Proof/Word.lean ====
section
/-! DEFINITION. Words of the link (spec 00 "Numbers and words"): a word is 16 bits, a profile's check value 32. -/

namespace Sys2Proof

/-- A word on the link. -/
abbrev Word := BitVec 16

/-- A profile's check value (R12). -/
abbrev CheckValue := BitVec 32

end Sys2Proof
end

