-- ==== Sys2Proof/Syntax.lean ====
section
/-! DEFINITION. The commands of the block: one constructor for each row of spec/opcode_table.json, with the row's
operands. Frames are those of R134 and R146. -/

namespace Sys2Proof

/-- One of the four amplifier modules. -/
abbrev ModuleId := Fin 4
/-- One of the eight paths. -/
abbrev PathId := Fin 8
/-- One of a ring's 32 bins. -/
abbrev BinId := Fin 32

/-- A frame: header word, body words and check word (R134). Its length word is the number of body words. -/
structure Frame where
  header : Word
  body : List Word
  check : Word
  deriving DecidableEq, Repr

/-- How a storage test fails (R171). -/
inductive StoreFault where
  | pattern
  | address
  deriving DecidableEq, Repr

/-- How LOOPBACK fails (R172). -/
inductive LoopFault where
  | noReturn
  | dataMismatch
  | checkError
  deriving DecidableEq, Repr

/-- The block's commands.
`spare` holds the header bits the part ignores on receipt and leaves as received (R145).
`params` are the parameter words of a CONTROL frame that carries the part's node number (R152, section 9.2).
The operands `tableStore`, `ringStore`, `loopback` and `found` say what the hardware test found; `none` is a pass. -/
inductive Instr where
  /-- SAMPLE (R60): a SAMPLE frame arrives at the modem port. -/
  | sample (path : PathId) (spare : BitVec 9) (position : Word) (samples : List Word)
  /-- BURST OPEN (R58). -/
  | burstOpen (path : PathId) (spare : BitVec 9) (declared level : Word)
  /-- BURST CLOSE (R66). -/
  | burstClose (path : PathId) (spare : BitVec 9)
  /-- LEVEL STEP from the modem (R63). -/
  | levelStep (path : PathId) (spare : BitVec 9) (level : Word)
  /-- SEGMENT with the part's node number (R119). -/
  | segment (index : Word) (words : List Word)
  /-- A frame of another node or of a kind the part does not read (R137). -/
  | forwardPassThrough (frame : Frame)
  /-- The radio port has sent the last word of the forward output's front frame (R137). -/
  | forwardOutputSent
  /-- TELEMETRY that passes its check arrives at the radio port (R21). -/
  | telemetry (spare : BitVec 12) (moduleWord presence temperature current reflection : Word)
  /-- Any other return frame, or a damaged one (R140). -/
  | returnFrame (frame : Frame)
  /-- The return lane becomes free and the merge arbiter chooses (R142). -/
  | mergeArbiterChoice
  /-- A module's bin timer expires (R45). -/
  | binExpiry (m : ModuleId)
  /-- A module's hold timer expires (R103). -/
  | holdExpiry (m : ModuleId)
  /-- A module's silence timer expires (R31). -/
  | silenceTimerExpiry (m : ModuleId)
  /-- A path's grace timer expires (R69). -/
  | graceExpiry (p : PathId)
  /-- The gap timer expires (R123). -/
  | gapTimerExpiry
  /-- The commit in progress completes (R129). -/
  | commitCompletion
  /-- The test run in progress completes (R174). -/
  | testRunCompletion (tableStore ringStore : Option StoreFault) (loopback : Option LoopFault)
  /-- The power-up tests complete (R168). -/
  | powerUpTestsCompletion (tableStore ringStore : Option StoreFault)
  /-- A module's scrub completes (R176). -/
  | scrubCompletion (m : ModuleId)
  /-- RING STORE examines one bin (R171). -/
  | ringStoreBinExamination (m : ModuleId) (bin : BinId) (found : Option StoreFault)
  /-- The reset pin is asserted (R166). -/
  | resetPinAssertion
  /-- The reset pin is released, with the strap pins at these levels (R166, R133). -/
  | resetPinRelease (nsel1 nsel0 : Bool)
  /-- The droop line is asserted (R114). -/
  | droopAssertingEdge
  /-- The droop line is released (R114). -/
  | droopReleasingEdge
  /-- IDENTIFY (R154). -/
  | identify (params : List Word)
  /-- READ STATUS (R157). -/
  | readStatus (params : List Word)
  /-- SET PATH (R75). -/
  | setPath (params : List Word)
  /-- SET MODULE (R35). -/
  | setModule (params : List Word)
  /-- SET LIMITS (R36). -/
  | setLimits (params : List Word)
  /-- SET DEVICE (R155). -/
  | setDevice (params : List Word)
  /-- LOAD OPEN (R117). -/
  | loadOpen (params : List Word)
  /-- LOAD ABORT (R124). -/
  | loadAbort (params : List Word)
  /-- COMMIT (R127). -/
  | commit (params : List Word)
  /-- GOVERN (R156). -/
  | govern (params : List Word)
  /-- STANDBY (R156). -/
  | standby (params : List Word)
  /-- CLEAR LATCH (R107). -/
  | clearLatch (params : List Word)
  /-- SNAPSHOT (R158). -/
  | snapshot (params : List Word)
  /-- READ ENTRY (R159). -/
  | readEntry (params : List Word)
  /-- RUN TESTS (R169). -/
  | runTests (params : List Word)
  /-- SOFT RESTART (R175). -/
  | softRestart (params : List Word)
  /-- HARD RESET (R167), with the strap pins at these levels. -/
  | hardReset (params : List Word) (nsel1 nsel0 : Bool)
  /-- A CONTROL frame whose code names no command (R152). -/
  | unknownCommand (code : Word) (params : List Word)
  /-- A forward frame that fails its frame check (R136). -/
  | forwardFrameFailingItsCheck (frame : Frame)
  deriving DecidableEq, Repr

end Sys2Proof
end

