-- ==== Sys2Proof/Machine/Check.lean ====
section
/-! DEFINITION. The two cyclic redundancy checks (00 "Check values", R12, R135): all ones at the start, most
significant bit first, no final inversion. -/

namespace Sys2Proof.Machine

/-- One bit into the 16-bit frame check, generator 0x1021 (R135). -/
def crc16Bit (c : BitVec 16) (b : Bool) : BitVec 16 :=
  if c.msb != b then (c <<< 1) ^^^ 0x1021 else c <<< 1

/-- One bit into the 32-bit profile check, generator 0x04C11DB7 (R12). -/
def crc32Bit (c : BitVec 32) (b : Bool) : BitVec 32 :=
  if c.msb != b then (c <<< 1) ^^^ 0x04C11DB7 else c <<< 1

/-- The low `n` bits of a word into a check register, most significant first. -/
def feedBits {σ : Type} (bit : σ → Bool → σ) (w : Word) : Nat → σ → σ
  | 0, c => c
  | n + 1, c => feedBits bit w n (bit c (w.getLsbD n))

/-- Words into a check register, in the order in which they travel. The register is matched as a number after each word,
which changes nothing but lets Lean's kernel evaluate it before the next word. -/
def feedWords {n : Nat} (bit : BitVec n → Bool → BitVec n) : List Word → BitVec n → BitVec n
  | [], c => c
  | w :: ws, c =>
    match (feedBits bit w 16 c).toNat with
    | 0 => feedWords bit ws 0
    | k + 1 => feedWords bit ws (BitVec.ofNat n (k + 1))

/-- The frame check over a run of words (R135). -/
def crc16 (ws : List Word) : Word := feedWords crc16Bit ws 0xFFFF

/-- The profile check over a run of words (R12). -/
def crc32 (ws : List Word) : CheckValue := feedWords crc32Bit ws 0xFFFFFFFF

end Sys2Proof.Machine
end

