-- ==== Sys2Proof/Config.lean ====
section
/-! DEFINITION. The numbers the spec fixes for the part: sizes, limits and timer units. No rule leaves a
value to the implementation, so there is no free value here. -/

namespace Sys2Proof.Config

/-- IDENTIFY's vendor number (R154). -/
def vendorNumber : Word := 0x0E27
/-- IDENTIFY's part number (R154). -/
def partNumber : Word := 0x0024
/-- IDENTIFY's revision (R154). -/
def revision : Word := 0x0010

/-- The timers' common unit is 125 us (00 "Timers"); 8 ms is 64 of them. -/
def unitsPer8ms : Nat := 64
/-- 64 ms in units of 125 us (R30). -/
def unitsPer64ms : Nat := 512
/-- 10 ms in units of 125 us (R122). -/
def unitsPer10ms : Nat := 80
/-- 1 ms in units of 125 us (R159, remaining times). -/
def unitsPerMs : Nat := 8

/-- The largest energy of a bin (R37, R41). -/
def maxBinEnergy : Nat := 134217727
/-- The largest frame count of a bin (R37, R41). -/
def maxBinFrames : Nat := 16777215

/-- The return holding buffer's places (R141). -/
def returnBufferSize : Nat := 4
/-- The most radio frames in a row while a report waits (R142). -/
def maxRunCount : Nat := 4
/-- The Report Queue's places (R160). -/
def reportQueueSize : Nat := 16
/-- Notices and verdicts enter while fewer than this many entries are held (R161). -/
def sharedQueueSize : Nat := 14

end Sys2Proof.Config
end

