-- ==== Sys2Proof/Machine/State.lean ====
section
/-! DEFINITION. The state of the part, block by block, as the spec gives it (00 "Blocks"), and its value just after
reset. Every timer's remaining time counts units of 125 us. -/

namespace Sys2Proof.Machine

/-- No command stops the part: the spec names no event after which it cannot go on (INVENTORY.md, "Faults"). -/
inductive Fault where
  deriving DecidableEq, Repr

/-- Why the model gives no next state. -/
inductive Refusal where
  /-- Raised by an arm of `exec` whose command has no meaning yet; safe. No arm raises it. -/
  | notModelled (mnemonic : String)
  deriving DecidableEq, Repr

/-! ### Names -/

/-- The six device states (R165). -/
inductive DeviceState where
  | offline | selftest | standby | governing | testing | lockdown
  deriving DecidableEq, Repr

/-- A module's telemetry state (R23). -/
inductive TelemetryState where
  | none | fresh | stale
  deriving DecidableEq, Repr

/-- A path's traffic class (R54). -/
inductive TrafficClass where
  | voice | signalling | data
  deriving DecidableEq, Repr

/-- A module's throttle state (R97). -/
inductive ThrottleState where
  | unprofiled | normal | clamped | releasing | latched
  deriving DecidableEq, Repr

/-- The five criteria (R99). -/
inductive Criterion where
  | overcurrent | reflection | slope | droop | silence
  deriving DecidableEq, Repr

/-- What a THROTTLE NOTICE names as cause (R109). -/
inductive NoticeCause where
  | criterion (c : Criterion)
  | holdExpiry
  | release
  | clearLatch
  | commit
  deriving DecidableEq, Repr

/-- The shadow profile's state (section 1.7). -/
inductive ShadowState where
  | empty | loading | ready | incomplete | committing
  deriving DecidableEq, Repr

/-- The counter mode (R74). -/
inductive CounterMode where
  | saturate | wrap
  deriving DecidableEq, Repr

/-- A level code 0-127, or OFF. -/
inductive Level where
  | code (n : Nat)
  | off
  deriving DecidableEq, Repr

/-- Why a grant is lower than asked (section 5.2). -/
inductive TrimReason where
  | clamp | ceiling | headroom | preempt
  deriving DecidableEq, Repr

/-- Why a burst is refused (section 5.2). -/
inductive BlankReason where
  | lockdown | testing | pathOff | notAdmitted | duty | headroom
  deriving DecidableEq, Repr

/-- The verdict of an admission with its reason (section 5.2). -/
inductive Verdict where
  | pass
  | trim (reason : TrimReason)
  | blank (reason : BlankReason)
  deriving DecidableEq, Repr

/-- How a load ended (R120). -/
inductive LoadOutcome where
  | complete | order | timeout | aborted
  deriving DecidableEq, Repr

/-- An answer's outcome (R153). -/
inductive AnswerOutcome where
  | done | busy | range | state | unknown | failed | abandoned
  deriving DecidableEq, Repr

/-- The four self-tests, in the order in which a run takes them (R170). -/
inductive SelfTest where
  | tableStore | ringStore | loopback | profileCheck
  deriving DecidableEq, Repr

/-- The reason of a failed test (R171 to R173). -/
inductive TestReason where
  | store (f : StoreFault)
  | link (f : LoopFault)
  | profileOf (m : ModuleId)
  deriving DecidableEq, Repr

/-- Why the device is in LOCKDOWN (R165). -/
inductive LockdownCause where
  | none
  | test
  | scrub (m : ModuleId)
  deriving DecidableEq, Repr

/-- The five conditions of the latched device status (R164). -/
inductive Condition where
  | forwardCheck | returnCheck | returnOverrun | reportOverflow | loadProtocol
  deriving DecidableEq, Repr

/-- A set of criteria, bit by bit as R149 codes it. -/
abbrev CriteriaSet := BitVec 5
/-- The latched device status, bit by bit as R149 codes it. -/
abbrev DeviceStatus := BitVec 5
/-- A set of self-tests, bit by bit as R149 codes it. -/
abbrev TestSet := BitVec 4
/-- A governing profile: 410 words in load order (R1). -/
abbrev Profile := Vector Word 410

/-! ### Burst Unit -/

/-- A burst record (R56). -/
structure BurstRecord where
  declared : Nat
  requested : Nat
  granted : Level
  weight : Nat
  backoff : Option Nat
  verdict : Verdict
  next : Nat
  forwarded : Nat
  lowered : Bool
  grace : Nat
  deriving DecidableEq, Repr

/-- The seven path counters of 32 bits (R73). -/
structure Counters where
  passed : BitVec 32
  trimmed : BitVec 32
  blanked : BitVec 32
  lowered : BitVec 32
  truncated : BitVec 32
  forwarded : BitVec 32
  dropped : BitVec 32
  deriving DecidableEq, Repr

/-- One entry of the Path Context Table (R54). The path is IN_BURST exactly when it holds a burst record (R56). -/
structure PathContext where
  enabled : Bool
  moduleId : ModuleId
  trafficClass : TrafficClass
  reporting : Bool
  burst : Option BurstRecord
  counters : Counters
  deriving DecidableEq, Repr

/-! ### What the part holds for each module -/

/-- One entry of the Module Context Table (R19). A stopped silence timer is `none`. -/
structure ModuleContext where
  telemetry : TelemetryState
  filtered : Option Int
  thermalGrade : Nat
  lastCurrent : Option Nat
  lastReflection : Option Nat
  silenceTimer : Option Nat
  binPeriodCode : Nat
  filterShift : Nat
  silenceCode : Nat
  mask : CriteriaSet
  currentLimit : Nat
  reflectionLimit : Nat
  slopeLimit : Nat
  deriving DecidableEq, Repr

/-- One bin of an Energy Window Ring (R37). -/
structure Bin where
  energy : Nat
  frames : Nat
  peak : Option Nat
  deriving DecidableEq, Repr

/-- An Energy Window Ring with what the Window Unit keeps beside it (R37 to R39, R43, R47, R49). -/
structure Ring where
  bins : Vector Bin 32
  current : BinId
  windowEnergy : Nat
  windowFrames : Nat
  energyGrade : Nat
  slopeReference : Option Int
  binTimer : Nat
  deriving DecidableEq, Repr

/-- A throttle context (R97). A stopped hold timer is `none`. -/
structure ThrottleContext where
  state : ThrottleState
  clampBackoff : Nat
  holdTimer : Option Nat
  strikes : Nat
  latched : CriteriaSet
  deriving DecidableEq, Repr

/-- A module's admission accounts (R91). -/
structure Accounts where
  inFlight : Nat
  committed : Nat
  deriving DecidableEq, Repr

/-- A filled place of the Profile Store (R10, R11). -/
structure ActiveProfile where
  words : Profile
  check : CheckValue
  deriving DecidableEq, Repr

/-- All that the blocks hold for one module. `scrub` says whether a scrub of it is in progress (R165). -/
structure ModuleState where
  context : ModuleContext
  ring : Ring
  throttle : ThrottleContext
  accounts : Accounts
  active : Option ActiveProfile
  scrub : Bool
  deriving DecidableEq, Repr

/-! ### Load, Command and Report Units, Device Controller -/

/-- The load context while the load state is OPEN (R116). -/
structure LoadContext where
  start : Nat
  count : Nat
  expected : Nat
  taken : Nat
  gapCode : Nat
  gapTimer : Nat
  deriving DecidableEq, Repr

/-- The long command in progress (R151); COMMIT with its module and check value, RUN TESTS with its test set. -/
inductive LongCommand where
  | none
  | commit (m : ModuleId) (check : CheckValue)
  | runTests (tests : TestSet)
  deriving DecidableEq, Repr

/-- The three test results (R165). -/
structure TestResults where
  failed : TestSet
  last : Option SelfTest
  reason : Option TestReason
  deriving DecidableEq, Repr

/-- A report with the fields its producer gave it (R120, R148, R95, R109, R153, R165). -/
inductive Report where
  | answer (code : Word) (outcome : AnswerOutcome) (detail : List Word)
  | loadResult (outcome : LoadOutcome) (start count taken : Nat) (received : Option Nat)
  | deviceState (state : DeviceState) (results : TestResults) (cause : LockdownCause)
  | throttleNotice (m : ModuleId) (old new : ThrottleState) (cause : NoticeCause) (strikes clampBackoff : Nat)
  | burstVerdict (p : PathId) (m : ModuleId) (verdict : Verdict) (requested : Nat) (granted : Level)
      (declared thermalGrade energyGrade inFlight preempted : Nat)
  deriving DecidableEq, Repr

/-! ### The whole part -/

/-- The state of the part. -/
structure State where
  /-- The commands that wait, first in, first out (the model's own). -/
  pending : List Instr
  /-- Pin levels (R178); the RESET pin is asserted exactly in OFFLINE. -/
  droopLine : Bool
  nsel1 : Bool
  nsel0 : Bool
  /-- Link Interface. -/
  nodeNumber : Fin 4
  forwardOutput : List Frame
  modemWaiting : List Frame
  returnBuffer : List Frame
  returnLane : Option Frame
  runCount : Nat
  /-- Burst Unit. -/
  paths : Vector PathContext 8
  graceCode : Nat
  counterMode : CounterMode
  /-- Admission Unit. -/
  standbyCeiling : Nat
  /-- Module, Window, Admission and Throttle Units, Profile Store and scrubs, by module. -/
  modules : Vector ModuleState 4
  /-- Load Unit. -/
  shadow : Profile
  shadowState : ShadowState
  load : Option LoadContext
  /-- Command Unit. -/
  longCommand : LongCommand
  status : DeviceStatus
  /-- Report Unit. -/
  reports : List Report
  reportGap : Bool
  /-- Device Controller. -/
  deviceState : DeviceState
  testResults : TestResults
  lockdownCause : LockdownCause
  ringFault : Option StoreFault
  deriving DecidableEq, Repr

/-! ### Reset values -/

/-- All counters 0 (R73). -/
def Counters.zero : Counters := ⟨0, 0, 0, 0, 0, 0, 0⟩

/-- A path's context after reset, on module `m` (R54). -/
def PathContext.reset (m : ModuleId) : PathContext :=
  { enabled := true, moduleId := m, trafficClass := .data, reporting := false, burst := none, counters := .zero }

/-- A module's entry of the Module Context Table after reset (R19). -/
def ModuleContext.reset : ModuleContext :=
  { telemetry := .none, filtered := none, thermalGrade := 7, lastCurrent := none, lastReflection := none,
    silenceTimer := some (4 * Config.unitsPer64ms), binPeriodCode := 125, filterShift := 2, silenceCode := 4,
    mask := 0, currentLimit := 65535, reflectionLimit := 255, slopeLimit := 255 }

/-- A cleared bin (R45). -/
def Bin.empty : Bin := ⟨0, 0, none⟩

/-- A ring after reset (R38). -/
def Ring.reset : Ring :=
  { bins := Vector.replicate 32 .empty, current := 0, windowEnergy := 0, windowFrames := 0, energyGrade := 0,
    slopeReference := none, binTimer := 125 * Config.unitsPer8ms }

/-- A throttle context after reset (R97). -/
def ThrottleContext.reset : ThrottleContext := ⟨.unprofiled, 0, none, 0, 0⟩

/-- What the part holds for a module after reset (R10, R19, R38, R91, R97, R165). -/
def ModuleState.reset : ModuleState :=
  { context := .reset, ring := .reset, throttle := .reset, accounts := ⟨0, 0⟩, active := none, scrub := false }

/-- The empty shadow (R18). -/
def Profile.zero : Profile := Vector.replicate 410 0

/-- Test results that name no failure (R165). -/
def TestResults.clean : TestResults := ⟨0, none, none⟩

/-- The part just after the release of the reset pin (R166), with the straps low and the droop line not asserted
(DESIGN CHOICE, log entries 4 and 5). -/
def State.reset : State :=
  { pending := [], droopLine := false, nsel1 := false, nsel0 := false,
    nodeNumber := 0, forwardOutput := [], modemWaiting := [], returnBuffer := [], returnLane := none, runCount := 0,
    paths := #v[.reset 0, .reset 0, .reset 1, .reset 1, .reset 2, .reset 2, .reset 3, .reset 3],
    graceCode := 4, counterMode := .saturate, standbyCeiling := 64,
    modules := #v[.reset, .reset, .reset, .reset],
    shadow := .zero, shadowState := .empty, load := none,
    longCommand := .none, status := 0, reports := [], reportGap := false,
    deviceState := .selftest, testResults := .clean, lockdownCause := .none, ringFault := none }

end Sys2Proof.Machine
end

