-- ==== Sys2Proof/Machine/Operands.lean ====
section
/-! DEFINITION. The forms in which values travel: frame layouts (R134, R135, R145, R146), command codes (R147), and the
codes of R149. -/

namespace Sys2Proof.Machine

/-! ### Words -/

/-- A value of two words, most significant first (R145). -/
def twoWords (n : Nat) : List Word := [BitVec.ofNat 16 (n / 65536), BitVec.ofNat 16 n]

/-- The value of two words, most significant first (R145). -/
def fromTwoWords (hi lo : Word) : Nat := hi.toNat * 65536 + lo.toNat

/-- Yes or no, on or off, as a word (R149). -/
def boolWord (b : Bool) : Word := if b then 1 else 0

/-- A word as yes or no, on or off (R149). -/
def wordBool (w : Word) : Option Bool :=
  if w = 1 then some true else if w = 0 then some false else none

/-- A word that names a module 0-3. -/
def wordModule (w : Word) : Option ModuleId :=
  if h : w.toNat < 4 then some ⟨w.toNat, h⟩ else none

/-- A word that names a path 0-7. -/
def wordPath (w : Word) : Option PathId :=
  if h : w.toNat < 8 then some ⟨w.toNat, h⟩ else none

/-- A level word of a BURST OPEN: a code 0-127, anything else is OFF (R57, R146). -/
def openLevel (w : Word) : Level := if w.toNat ≤ 127 then .code w.toNat else .off

/-- A level word of a modem LEVEL STEP: a code 0-127, anything else is level 0 (R63, R146). -/
def stepLevel (w : Word) : Nat := if w.toNat ≤ 127 then w.toNat else 0

/-- A declared length word: 0 is read as 1, a value above 64 as 64 (R57). -/
def declaredLength (w : Word) : Nat := if w.toNat = 0 then 1 else min w.toNat 64

/-- A level as a word: 0-127, or 0x00FF for OFF (R138, R149). -/
def levelWord : Level → Word
  | .code n => BitVec.ofNat 16 n
  | .off => 0x00FF

/-- A temperature word is signed; the reading is held within -160 to +600 (R22). -/
def temperatureReading (w : Word) : Int := max (-160) (min 600 w.toInt)

/-- A reflection word above 255 is taken as 255 (R33). -/
def reflectionReading (w : Word) : Nat := min w.toNat 255

/-! ### Frames (R134, R146) -/

/-- The kinds the part reads on the forward lane (R135). -/
def kindSample : Nat := 1
def kindBurstOpen : Nat := 2
def kindBurstClose : Nat := 3
def kindLevelStep : Nat := 4
def kindControl : Nat := 8
def kindSegment : Nat := 9
/-- The kind the part reads on the return lane (R135). -/
def kindTelemetry : Nat := 12
/-- The kind of the part's own reports (R143). -/
def kindReport : Nat := 13

/-- The frame's length word: the number of its body words (R134). -/
def bodyLength (body : List Word) : Word := BitVec.ofNat 16 body.length

/-- A frame with the check word computed over header, length and body (R135). -/
def sealFrame (header : Word) (body : List Word) : Frame :=
  ⟨header, body, crc16 (header :: bodyLength body :: body)⟩

/-- A header: the kind in bits 15-12, the low bits below (R134). -/
def headerOf (kind low : Nat) : Word := BitVec.ofNat 16 (kind * 4096 + low)

/-- A path kind's header: bits 2-0 name the path, bits 11-3 are ignored on receipt (R146). -/
def pathHeader (kind : Nat) (spare : BitVec 9) (p : PathId) : Word := headerOf kind (spare.toNat * 8 + p.val)

def sampleFrame (p : PathId) (spare : BitVec 9) (position : Word) (samples : List Word) : Frame :=
  sealFrame (pathHeader kindSample spare p) (position :: samples)

def burstOpenFrame (p : PathId) (spare : BitVec 9) (declared level : Word) : Frame :=
  sealFrame (pathHeader kindBurstOpen spare p) [declared, level]

def burstCloseFrame (p : PathId) (spare : BitVec 9) : Frame :=
  sealFrame (pathHeader kindBurstClose spare p) []

def levelStepFrame (p : PathId) (spare : BitVec 9) (level : Word) : Frame :=
  sealFrame (pathHeader kindLevelStep spare p) [level]

def controlFrame (node : Fin 4) (code : Word) (params : List Word) : Frame :=
  sealFrame (headerOf kindControl node.val) (code :: params)

def segmentFrame (node : Fin 4) (index : Word) (words : List Word) : Frame :=
  sealFrame (headerOf kindSegment node.val) (index :: words)

def telemetryFrame (spare : BitVec 12) (moduleWord presence temperature current reflection : Word) : Frame :=
  sealFrame (headerOf kindTelemetry spare.toNat) [moduleWord, presence, temperature, current, reflection]


/-- The frame's kind: the four most significant bits of its header (R134). -/
def frameKind (f : Frame) : Nat := f.header.toNat / 4096

/-- The path a path kind's header names, and the header bits the part ignores (R146). -/
def framePath (f : Frame) : PathId := ⟨f.header.toNat % 8, Nat.mod_lt _ (by decide)⟩
def frameSpare (f : Frame) : BitVec 9 := BitVec.ofNat 9 (f.header.toNat / 8)

/-- The node a CONTROL or SEGMENT header names, 0-15 (R146). -/
def frameNode (f : Frame) : Nat := f.header.toNat % 16

/-- The check word is the one computed over the frame (R135). -/
def checkWordHolds (f : Frame) : Bool := crc16 (f.header :: bodyLength f.body :: f.body) == f.check

/-- The lengths R146 allows for the kinds read on the forward lane; other kinds have any length (R135). -/
def forwardLengthAllowed (kind n : Nat) : Bool :=
  if kind = kindSample then decide (1 ≤ n)
  else if kind = kindBurstOpen then n == 2
  else if kind = kindBurstClose then n == 0
  else if kind = kindLevelStep then n == 1
  else if kind = kindControl then decide (1 ≤ n) && decide (n ≤ 13)
  else if kind = kindSegment then n == 33
  else true

/-- A forward frame passes its frame check (R135). -/
def passesForward (f : Frame) : Bool := checkWordHolds f && forwardLengthAllowed (frameKind f) f.body.length

/-- A return frame passes its frame check (R135); TELEMETRY has five body words (R146). -/
def passesReturn (f : Frame) : Bool :=
  checkWordHolds f && (frameKind f != kindTelemetry || f.body.length == 5)

/-! ### Commands (R147, section 9.2) -/

/-- The seventeen commands of R147. -/
inductive Command where
  | identify | readStatus | setPath | setModule | setLimits | setDevice | loadOpen | loadAbort | commit
  | govern | standby | clearLatch | snapshot | readEntry | runTests | softRestart | hardReset
  deriving DecidableEq, Repr

/-- A command's code (R147). -/
def commandCode : Command → Word
  | .identify => 0x0001
  | .readStatus => 0x0002
  | .setPath => 0x0003
  | .setModule => 0x0004
  | .setLimits => 0x0005
  | .setDevice => 0x0006
  | .loadOpen => 0x0007
  | .loadAbort => 0x0008
  | .commit => 0x0009
  | .govern => 0x000A
  | .standby => 0x000B
  | .clearLatch => 0x000C
  | .snapshot => 0x000D
  | .readEntry => 0x000E
  | .runTests => 0x000F
  | .softRestart => 0x0010
  | .hardReset => 0x0011

/-- The command a code names, if any (R147). -/
def commandOf (w : Word) : Option Command :=
  match w.toNat with
  | 0x0001 => some .identify
  | 0x0002 => some .readStatus
  | 0x0003 => some .setPath
  | 0x0004 => some .setModule
  | 0x0005 => some .setLimits
  | 0x0006 => some .setDevice
  | 0x0007 => some .loadOpen
  | 0x0008 => some .loadAbort
  | 0x0009 => some .commit
  | 0x000A => some .govern
  | 0x000B => some .standby
  | 0x000C => some .clearLatch
  | 0x000D => some .snapshot
  | 0x000E => some .readEntry
  | 0x000F => some .runTests
  | 0x0010 => some .softRestart
  | 0x0011 => some .hardReset
  | _ => none

/-- The fixed number of parameter words of a command (section 9.2). HARD RESET is executed whatever it carries (R152). -/
def parameterCount : Command → Nat
  | .identify => 0
  | .readStatus => 1
  | .setPath => 5
  | .setModule => 5
  | .setLimits => 4
  | .setDevice => 3
  | .loadOpen => 3
  | .loadAbort => 0
  | .commit => 3
  | .govern => 0
  | .standby => 0
  | .clearLatch => 1
  | .snapshot => 1
  | .readEntry => 3
  | .runTests => 1
  | .softRestart => 0
  | .hardReset => 0

/-! ### Codes of R149 (and of R153, R159 where they say so) -/

def outcomeWord : AnswerOutcome → Word
  | .done => 0
  | .busy => 1
  | .range => 2
  | .state => 3
  | .unknown => 4
  | .failed => 5
  | .abandoned => 6

def loadOutcomeWord : LoadOutcome → Word
  | .complete => 0
  | .order => 1
  | .timeout => 2
  | .aborted => 3

/-- High byte the verdict, low byte the reason (R149). -/
def verdictWord : Verdict → Word
  | .pass => 0x0100
  | .trim .clamp => 0x0207
  | .trim .ceiling => 0x0208
  | .trim .headroom => 0x0206
  | .trim .preempt => 0x0209
  | .blank .lockdown => 0x0301
  | .blank .testing => 0x0302
  | .blank .pathOff => 0x0303
  | .blank .notAdmitted => 0x0304
  | .blank .duty => 0x0305
  | .blank .headroom => 0x0306

def throttleWord : ThrottleState → Word
  | .unprofiled => 0
  | .normal => 1
  | .clamped => 2
  | .releasing => 3
  | .latched => 4

def causeWord : NoticeCause → Word
  | .criterion .overcurrent => 1
  | .criterion .reflection => 2
  | .criterion .slope => 3
  | .criterion .droop => 4
  | .criterion .silence => 5
  | .holdExpiry => 6
  | .release => 7
  | .clearLatch => 8
  | .commit => 9

/-- R149 codes the five states a report can carry; no report is made in OFFLINE. -/
def deviceStateWord : DeviceState → Word
  | .offline => 0
  | .selftest => 1
  | .standby => 2
  | .governing => 3
  | .testing => 4
  | .lockdown => 5

def testWord : Option SelfTest → Word
  | none => 0
  | some .tableStore => 1
  | some .ringStore => 2
  | some .loopback => 3
  | some .profileCheck => 4

def testReasonWord : Option TestReason → Word
  | none => 0xFFFF
  | some (.store .pattern) => 1
  | some (.store .address) => 2
  | some (.link .noReturn) => 3
  | some (.link .dataMismatch) => 4
  | some (.link .checkError) => 5
  | some (.profileOf m) => BitVec.ofNat 16 m.val

def lockdownCauseWord : LockdownCause → Word
  | .none => 0
  | .test => 1
  | .scrub _ => 2

/-- The lockdown module is 0xFFFF except for cause SCRUB (R165). -/
def lockdownModuleWord : LockdownCause → Word
  | .none => 0xFFFF
  | .test => 0xFFFF
  | .scrub m => BitVec.ofNat 16 m.val

def classWord : TrafficClass → Word
  | .voice => 0
  | .signalling => 1
  | .data => 2

/-- A word as a class (R149). -/
def wordClass (w : Word) : Option TrafficClass :=
  if w = 0 then some .voice else if w = 1 then some .signalling else if w = 2 then some .data else none

/-- R159, kind 2. -/
def shadowStateWord : ShadowState → Word
  | .empty => 0
  | .loading => 1
  | .ready => 2
  | .incomplete => 3
  | .committing => 4

/-- R159, kind 5. -/
def telemetryWord : TelemetryState → Word
  | .none => 0
  | .fresh => 1
  | .stale => 2

/-- R155, R158. -/
def counterModeWord : CounterMode → Word
  | .saturate => 0
  | .wrap => 1

/-- R155. -/
def wordCounterMode (w : Word) : Option CounterMode :=
  if w = 0 then some .saturate else if w = 1 then some .wrap else none

/-- A test's bit in a test set (R149). -/
def testBit : SelfTest → Nat
  | .tableStore => 0
  | .ringStore => 1
  | .loopback => 2
  | .profileCheck => 3

/-! ### Reports as frames (R143, R148) -/

/-- The report kind (R148). -/
def reportKind : Report → Word
  | .answer .. => 1
  | .loadResult .. => 2
  | .deviceState .. => 3
  | .throttleNotice .. => 4
  | .burstVerdict .. => 5

/-- The fields after the first body word (R148). -/
def reportFields : Report → List Word
  | .answer code outcome detail => code :: outcomeWord outcome :: detail
  | .loadResult outcome start count taken received =>
    [loadOutcomeWord outcome, BitVec.ofNat 16 start, BitVec.ofNat 16 count, BitVec.ofNat 16 taken,
      (received.map (BitVec.ofNat 16)).getD 0xFFFF]
  | .deviceState state results cause =>
    [deviceStateWord state, results.failed.setWidth 16, testWord results.last, testReasonWord results.reason,
      lockdownCauseWord cause, lockdownModuleWord cause]
  | .throttleNotice m old new cause strikes clampBackoff =>
    [BitVec.ofNat 16 m.val, throttleWord old, throttleWord new, causeWord cause, BitVec.ofNat 16 strikes,
      BitVec.ofNat 16 clampBackoff]
  | .burstVerdict p m verdict requested granted declared thermalGrade energyGrade inFlight preempted =>
    [BitVec.ofNat 16 p.val, BitVec.ofNat 16 m.val, verdictWord verdict, BitVec.ofNat 16 requested, levelWord granted,
      BitVec.ofNat 16 declared, BitVec.ofNat 16 thermalGrade, BitVec.ofNat 16 energyGrade] ++
      twoWords inFlight ++ [BitVec.ofNat 16 preempted]

/-- The REPORT frame the part sends: kind 13 and its node; the report kind with the gap flag in bit 15 (R143). -/
def reportFrame (node : Fin 4) (gap : Bool) (r : Report) : Frame :=
  sealFrame (headerOf kindReport node.val) ((reportKind r ||| (if gap then 0x8000 else 0)) :: reportFields r)

end Sys2Proof.Machine
end

