-- ==== Sys2Proof/Decode.lean ====
section
/-! DEFINITION. What a word spells, and how a forward command travels as a frame (R134, R146, R147). -/

namespace Sys2Proof

/-- No row of spec/opcode_table.json gives bits, so no word spells a command. -/
def decodeTableWord (_nbits _w : Nat) : Option Instr := none

open Machine

/-- The frame of a forward command as the modem sends it to the part of node number `node` (R146, R147); the other
commands are no forward frames. -/
def forwardFrameOf (node : Fin 4) : Instr → Option Frame
  | .sample p spare position samples => some (sampleFrame p spare position samples)
  | .burstOpen p spare declared level => some (burstOpenFrame p spare declared level)
  | .burstClose p spare => some (burstCloseFrame p spare)
  | .levelStep p spare level => some (levelStepFrame p spare level)
  | .segment index words => some (segmentFrame node index words)
  | .forwardPassThrough f => some f
  | .identify params => some (controlFrame node (commandCode .identify) params)
  | .readStatus params => some (controlFrame node (commandCode .readStatus) params)
  | .setPath params => some (controlFrame node (commandCode .setPath) params)
  | .setModule params => some (controlFrame node (commandCode .setModule) params)
  | .setLimits params => some (controlFrame node (commandCode .setLimits) params)
  | .setDevice params => some (controlFrame node (commandCode .setDevice) params)
  | .loadOpen params => some (controlFrame node (commandCode .loadOpen) params)
  | .loadAbort params => some (controlFrame node (commandCode .loadAbort) params)
  | .commit params => some (controlFrame node (commandCode .commit) params)
  | .govern params => some (controlFrame node (commandCode .govern) params)
  | .standby params => some (controlFrame node (commandCode .standby) params)
  | .clearLatch params => some (controlFrame node (commandCode .clearLatch) params)
  | .snapshot params => some (controlFrame node (commandCode .snapshot) params)
  | .readEntry params => some (controlFrame node (commandCode .readEntry) params)
  | .runTests params => some (controlFrame node (commandCode .runTests) params)
  | .softRestart params => some (controlFrame node (commandCode .softRestart) params)
  | .hardReset params _ _ => some (controlFrame node (commandCode .hardReset) params)
  | .unknownCommand code params => some (controlFrame node code params)
  | .forwardFrameFailingItsCheck f => some f
  | .forwardOutputSent => none
  | .telemetry .. => none
  | .returnFrame _ => none
  | .mergeArbiterChoice => none
  | .binExpiry _ => none
  | .holdExpiry _ => none
  | .silenceTimerExpiry _ => none
  | .graceExpiry _ => none
  | .gapTimerExpiry => none
  | .commitCompletion => none
  | .testRunCompletion .. => none
  | .powerUpTestsCompletion .. => none
  | .scrubCompletion _ => none
  | .ringStoreBinExamination .. => none
  | .resetPinAssertion => none
  | .resetPinRelease .. => none
  | .droopAssertingEdge => none
  | .droopReleasingEdge => none

end Sys2Proof
end

