-- ==== Sys2Proof/Machine/Flags.lean ====
section
/-! DEFINITION. The part's flags: the latched device status (R164), the criteria sets (R99, R100), the report-gap flag
(R162) and the path counters' growth (R74). -/

namespace Sys2Proof.Machine

/-- A condition's bit in the latched device status (R149). -/
def conditionBit : Condition → Nat
  | .forwardCheck => 0
  | .returnCheck => 1
  | .returnOverrun => 2
  | .reportOverflow => 3
  | .loadProtocol => 4

/-- The condition is present (R164). -/
def hasCondition (d : DeviceStatus) (c : Condition) : Bool := d.getLsbD (conditionBit c)

/-- Adds a condition; one already present stays present (R144, R164). -/
def addCondition (c : Condition) (s : State) : State :=
  { s with status := s.status ||| (1#5 <<< conditionBit c) }

/-- A criterion's bit in a criteria set (R149). -/
def criterionBit : Criterion → Nat
  | .overcurrent => 0
  | .reflection => 1
  | .slope => 2
  | .droop => 3
  | .silence => 4

/-- The criterion is in the set (R99). -/
def hasCriterion (t : CriteriaSet) (c : Criterion) : Bool := t.getLsbD (criterionBit c)

/-- The set with the criterion (R99). -/
def insertCriterion (c : Criterion) (t : CriteriaSet) : CriteriaSet := t ||| (1#5 <<< criterionBit c)

/-- A counter grows by 1; at its top it stays (SATURATE) or becomes 0 (WRAP) (R74). -/
def growCounter (mode : CounterMode) (c : BitVec 32) : BitVec 32 :=
  if c = BitVec.allOnes 32 then
    match mode with
    | .saturate => c
    | .wrap => 0
  else c + 1

end Sys2Proof.Machine
end

