-- ==== Sys2Proof/Machine/Profile.lean ====
section
/-! DEFINITION. What the words of a governing profile mean (R1, R2, R5 to R8, R150), how a reading block takes a stored
field (R14), and the conditions a commit tests (R9, R129). -/

namespace Sys2Proof.Machine

/-! ### The stored words (R150) -/

/-- Profile word `i`. -/
def profileWord (p : Profile) (i : Nat) : Word := (p[i]?).getD 0

/-- The first word of record (t, e): row `t` of the grid is segment `t`. -/
def recordStart (t e : Nat) : Nat := 32 * t + 4 * e

/-- The stored fields of record (t, e) (R2). -/
def storedBackoff (p : Profile) (t e : Nat) : Nat := (profileWord p (recordStart t e)).toNat
/-- 0xFFFF is UNLIMITED, which counts as larger than every number (R9), as 65535 does. -/
def storedAllowance (p : Profile) (t e : Nat) : Nat := (profileWord p (recordStart t e + 1)).toNat
def storedHeadroom (p : Profile) (t e : Nat) : Nat := (profileWord p (recordStart t e + 2)).toNat
def storedAdmit (p : Profile) (t e : Nat) : Nat := (profileWord p (recordStart t e + 3)).toNat

/-- Energy threshold `g`, 1 to 7 (R5): every 32-bit value is in range. -/
def energyThreshold (p : Profile) (g : Nat) : Nat :=
  (profileWord p (256 + 2 * (g - 1))).toNat * 65536 + (profileWord p (257 + 2 * (g - 1))).toNat

/-- Thermal threshold `g`, 1 to 7, as stored (R6). -/
def storedThermal (p : Profile) (g : Nat) : Int := (profileWord p (269 + g)).toInt
def storedHysteresis (p : Profile) : Nat := (profileWord p 277).toNat
def storedClampBackoff (p : Profile) : Nat := (profileWord p 278).toNat
def storedHoldCode (p : Profile) : Nat := (profileWord p 279).toNat
def storedReleaseStep (p : Profile) : Nat := (profileWord p 280).toNat
def storedStrikeLimit (p : Profile) : Nat := (profileWord p 281).toNat

/-- W(g) (R8): every word is in range. -/
def weight (p : Profile) (g : Nat) : Nat := (profileWord p (282 + g)).toNat

/-! ### The fields as a reading block takes them (R14): the nearest legal value -/

/-- Which classes a record admits (R3). -/
inductive Admit where
  | all | voiceAndSignalling | none
  deriving DecidableEq, Repr

/-- A record as admission reads it; `allowance` is `none` for UNLIMITED (R2). -/
structure Record where
  backoff : Nat
  allowance : Option Nat
  headroom : Nat
  classes : Admit
  deriving DecidableEq, Repr

/-- An *admit* word that names no setting is read as NONE (R14). -/
def readAdmit (n : Nat) : Admit :=
  match n with
  | 0 => .all
  | 1 => .voiceAndSignalling
  | _ => .none

/-- Record (t, e) as read (R14, R15). -/
def readRecord (p : Profile) (t e : Nat) : Record :=
  { backoff := min (storedBackoff p t e) 127,
    allowance := if storedAllowance p t e = 65535 then none else some (storedAllowance p t e),
    headroom := storedHeadroom p t e,
    classes := readAdmit (storedAdmit p t e) }

def thermalThreshold (p : Profile) (g : Nat) : Int := max (-160) (min 600 (storedThermal p g))
def hysteresis (p : Profile) : Nat := min (storedHysteresis p) 63
def clampBackoff (p : Profile) : Nat := min (storedClampBackoff p) 127
def holdCode (p : Profile) : Nat := max 1 (min (storedHoldCode p) 255)
def releaseStep (p : Profile) : Nat := max 1 (min (storedReleaseStep p) 32)
def strikeLimit (p : Profile) : Nat := max 1 (min (storedStrikeLimit p) 15)

/-- The record admits the class (R3). -/
def admits (a : Admit) (c : TrafficClass) : Bool :=
  match a with
  | .all => true
  | .voiceAndSignalling => c != .data
  | .none => false

/-- The energy grade of a window energy: how many of the seven thresholds are at or below it (R47). -/
def energyGradeOf (p : Profile) (energy : Nat) : Nat :=
  ([1, 2, 3, 4, 5, 6, 7].filter fun g => energyThreshold p g ≤ energy).length

/-- The highest grade up to `g` whose thermal threshold is at or below `f`, or 0 (R27, rising step; R28). -/
def risingGrade (p : Profile) (f : Int) : Nat → Nat
  | 0 => 0
  | g + 1 => if thermalThreshold p (g + 1) ≤ f then g + 1 else risingGrade p f g

/-- The falling step from grade `g` (R27). -/
def fallingGrade (p : Profile) (f : Int) : Nat → Nat
  | 0 => 0
  | g + 1 => if f < thermalThreshold p (g + 1) - hysteresis p then fallingGrade p f g else g + 1

/-- The re-evaluation of grade `g` at filtered temperature `f` (R27). -/
def regrade (p : Profile) (f : Int) (g : Nat) : Nat :=
  if g < risingGrade p f 7 then risingGrade p f 7 else fallingGrade p f g

/-! ### The commit's conditions (R129) -/

/-- The check value over the profile's 410 words (R12). -/
def profileCheck (p : Profile) : CheckValue := crc32 p.toList

/-- Why a commit fails, in the order of R129. -/
inductive CommitFailure where
  | checkMismatch | range | thermalOrder | energyOrder | weightOrder | backoffOrder | allowanceOrder | admitOrder
  deriving DecidableEq, Repr

/-- The codes of R153. -/
def failureWord : CommitFailure → Word
  | .checkMismatch => 1
  | .range => 2
  | .thermalOrder => 3
  | .energyOrder => 4
  | .weightOrder => 5
  | .backoffOrder => 6
  | .allowanceOrder => 7
  | .admitOrder => 8

/-- Every field holds a legal value (section 1.3). -/
def inRange (p : Profile) : Bool :=
  ((List.range 8).all fun t => (List.range 8).all fun e =>
    decide (storedBackoff p t e ≤ 127) && decide (storedAdmit p t e ≤ 2)) &&
  ((List.range 7).all fun g => decide (-160 ≤ storedThermal p (g + 1)) && decide (storedThermal p (g + 1) ≤ 600)) &&
  decide (storedHysteresis p ≤ 63) && decide (storedClampBackoff p ≤ 127) &&
  decide (1 ≤ storedHoldCode p) && decide (storedHoldCode p ≤ 255) &&
  decide (1 ≤ storedReleaseStep p) && decide (storedReleaseStep p ≤ 32) &&
  decide (1 ≤ storedStrikeLimit p) && decide (storedStrikeLimit p ≤ 15)

/-- THERMAL_ORDER (R9). -/
def thermalOrder (p : Profile) : Bool :=
  (List.range 6).all fun g => decide (storedThermal p (g + 1) < storedThermal p (g + 2))

/-- ENERGY_ORDER (R9). -/
def energyOrder (p : Profile) : Bool :=
  (List.range 6).all fun g => decide (energyThreshold p (g + 1) < energyThreshold p (g + 2))

/-- WEIGHT_ORDER (R9). -/
def weightOrder (p : Profile) : Bool := (List.range 127).all fun g => decide (weight p g ≤ weight p (g + 1))

/-- A record stands to its hotter and to its busier neighbour as `rel` asks, everywhere in the grid (R9). -/
def gridOrder (field : Nat → Nat → Nat) (rel : Nat → Nat → Bool) : Bool :=
  (List.range 8).all fun t => (List.range 8).all fun e =>
    (t == 7 || rel (field t e) (field (t + 1) e)) && (e == 7 || rel (field t e) (field t (e + 1)))

/-- BACKOFF_ORDER, ALLOWANCE_ORDER, ADMIT_ORDER (R9). The codes of *admit* stand in the order ALL,
VOICE_AND_SIGNALLING, NONE. -/
def backoffOrder (p : Profile) : Bool := gridOrder (storedBackoff p) fun a b => decide (a ≤ b)
def allowanceOrder (p : Profile) : Bool := gridOrder (storedAllowance p) fun a b => decide (b ≤ a)
def admitOrder (p : Profile) : Bool := gridOrder (storedAdmit p) fun a b => decide (a ≤ b)

/-- The first condition of R129 that fails, if any. -/
def commitFailure (p : Profile) (check : CheckValue) : Option CommitFailure :=
  if profileCheck p ≠ check then some .checkMismatch
  else if !inRange p then some .range
  else if !thermalOrder p then some .thermalOrder
  else if !energyOrder p then some .energyOrder
  else if !weightOrder p then some .weightOrder
  else if !backoffOrder p then some .backoffOrder
  else if !allowanceOrder p then some .allowanceOrder
  else if !admitOrder p then some .admitOrder
  else none

end Sys2Proof.Machine
end

