-- ==== Sys2Proof/Machine/Ops.lean ====
section
/-! DEFINITION. The named operations over the part's tables: reading and writing a module or a path, the forward output
(R137), the merge arbiter's choice (R142, R143), and the Report Queue (R160, R161). The block takes no exception; raising
a condition is an effect on State. -/

namespace Sys2Proof.Machine

/-! ### Modules and paths -/

/-- The modules and the paths in the order of their numbers. -/
def allModules : List ModuleId := [0, 1, 2, 3]
def allPaths : List PathId := [0, 1, 2, 3, 4, 5, 6, 7]

/-- What the part holds for module `m`. -/
def moduleAt (s : State) (m : ModuleId) : ModuleState := s.modules[m.val]'m.isLt

def setModuleAt (m : ModuleId) (x : ModuleState) (s : State) : State :=
  { s with modules := s.modules.set m.val x m.isLt }

/-- Path `p`'s entry of the Path Context Table. -/
def pathAt (s : State) (p : PathId) : PathContext := s.paths[p.val]'p.isLt

def setPathAt (p : PathId) (x : PathContext) (s : State) : State :=
  { s with paths := s.paths.set p.val x p.isLt }

def setContext (m : ModuleId) (x : ModuleContext) (s : State) : State :=
  setModuleAt m { moduleAt s m with context := x } s

def setRing (m : ModuleId) (x : Ring) (s : State) : State :=
  setModuleAt m { moduleAt s m with ring := x } s

def setThrottle (m : ModuleId) (x : ThrottleContext) (s : State) : State :=
  setModuleAt m { moduleAt s m with throttle := x } s

def setAccounts (m : ModuleId) (x : Accounts) (s : State) : State :=
  setModuleAt m { moduleAt s m with accounts := x } s

def setActive (m : ModuleId) (x : Option ActiveProfile) (s : State) : State :=
  setModuleAt m { moduleAt s m with active := x } s

def setScrub (m : ModuleId) (x : Bool) (s : State) : State :=
  setModuleAt m { moduleAt s m with scrub := x } s

def setBurst (p : PathId) (b : Option BurstRecord) (s : State) : State :=
  setPathAt p { pathAt s p with burst := b } s

/-- The active profile's words of module `m`, if it is profiled (R10). -/
def profileOf (s : State) (m : ModuleId) : Option Profile := (moduleAt s m).active.map (·.words)

/-- The weight of level `g` on module `m`: 0 on a module without an active profile (R16, R17). -/
def weightOn (s : State) (m : ModuleId) (g : Nat) : Nat :=
  match profileOf s m with
  | some p => weight p g
  | none => 0

/-! ### Path counters (R73) -/

/-- The seven counters by name, in the order of R73. -/
inductive CounterName where
  | passed | trimmed | blanked | lowered | truncated | forwarded | dropped
  deriving DecidableEq, Repr

/-- One counter grows (R73, R74). -/
def growIn (mode : CounterMode) (c : Counters) : CounterName → Counters
  | .passed => { c with passed := growCounter mode c.passed }
  | .trimmed => { c with trimmed := growCounter mode c.trimmed }
  | .blanked => { c with blanked := growCounter mode c.blanked }
  | .lowered => { c with lowered := growCounter mode c.lowered }
  | .truncated => { c with truncated := growCounter mode c.truncated }
  | .forwarded => { c with forwarded := growCounter mode c.forwarded }
  | .dropped => { c with dropped := growCounter mode c.dropped }

def count (p : PathId) (n : CounterName) (s : State) : State :=
  setPathAt p { pathAt s p with counters := growIn s.counterMode (pathAt s p).counters n } s

/-! ### The forward output (R137, R139) -/

/-- A frame is added behind those the forward output holds. -/
def send (f : Frame) (s : State) : State := { s with forwardOutput := s.forwardOutput ++ [f] }

/-! ### The merge arbiter (R142, R143, R162) -/

/-- The oldest report is chosen: it leaves the queue with the gap flag, which is then cleared (R142, R143, R162). -/
def chooseReport (r : Report) (rs : List Report) (s : State) : State :=
  { s with
    reports := rs, returnLane := some (reportFrame s.nodeNumber s.reportGap r), reportGap := false, runCount := 0 }

/-- The oldest radio frame is chosen, and the run count becomes `n` (R142). -/
def chooseRadio (f : Frame) (fs : List Frame) (n : Nat) (s : State) : State :=
  { s with returnBuffer := fs, returnLane := some f, runCount := n }

/-- The choice of R142 on the buffer and the queue as they stand; the frame sent before is complete. -/
def mergeChoice (s : State) : State :=
  match s.returnBuffer, s.reports with
  | [], [] => { s with returnLane := none }
  | f :: fs, [] => chooseRadio f fs 0 s
  | [], r :: rs => chooseReport r rs s
  | f :: fs, r :: rs =>
    if s.runCount < Config.maxRunCount then chooseRadio f fs (s.runCount + 1) s else chooseReport r rs s

/-- An idle lane counts as free when a radio frame or a report has entered: the arbiter chooses at once (R142). -/
def chooseIfIdle (s : State) : State := if s.returnLane.isNone then mergeChoice s else s

/-! ### The Report Queue (R160, R161) -/

/-- The three classes of R161. -/
inductive ReportClass where
  | answer | notice | verdict
  deriving DecidableEq, Repr

def reportClass : Report → ReportClass
  | .answer .. => .answer
  | .loadResult .. => .answer
  | .deviceState .. => .answer
  | .throttleNotice .. => .notice
  | .burstVerdict .. => .verdict

def isVerdict (r : Report) : Bool := reportClass r == .verdict

/-- The queue without its oldest BURST VERDICT (R161). -/
def dropOldestVerdict : List Report → List Report
  | [] => []
  | r :: rs => if isVerdict r then rs else r :: dropOldestVerdict rs

/-- A report enters as the newest (R160); on an idle lane the arbiter chooses at once (R142). -/
def enqueue (r : Report) (s : State) : State := chooseIfIdle { s with reports := s.reports ++ [r] }

/-- A report is lost: the gap flag is set and REPORT OVERFLOW added (R161). -/
def reportLost (s : State) : State := addCondition .reportOverflow { s with reportGap := true }

/-- A report is offered to the queue (R161). -/
def offer (r : Report) (s : State) : State :=
  match reportClass r with
  | .answer => if s.reports.length < Config.reportQueueSize then enqueue r s else reportLost s
  | .notice =>
    if s.reports.length < Config.sharedQueueSize then enqueue r s
    else if s.reports.any isVerdict then
      enqueue r (reportLost { s with reports := dropOldestVerdict s.reports })
    else reportLost s
  | .verdict => if s.reports.length < Config.sharedQueueSize then enqueue r s else reportLost s

/-- A DEVICE STATE report carries the device state, the test results and the lockdown cause as they stand (R165). -/
def reportDeviceState (s : State) : State :=
  offer (.deviceState s.deviceState s.testResults s.lockdownCause) s

end Sys2Proof.Machine
end

