-- ==== Sys2Proof/Machine/Ports.lean ====
section
/-! DEFINITION. The two ports' taking of an arrival (R133, R136, R137, R140, R141): what the Link Interface does with
every frame before and after the block that owns it. -/

namespace Sys2Proof.Machine

/-- The Link Interface takes a forward frame: in OFFLINE it is lost (R133); one that fails its check is discarded with
FORWARD CHECK (R136); any other goes to its block (R137). -/
def takeForward (f : Frame) (handler : State → State) (s : State) : State :=
  if s.deviceState = .offline then s
  else if passesForward f then handler s
  else addCondition .forwardCheck s

/-- The modem port may take an arrival: the forward output holds no frame, and none waits ahead (R137). -/
def modemPortFree (s : State) : Bool := s.forwardOutput.isEmpty && s.modemWaiting.isEmpty

/-- A frame arrives at the modem port: while the port may not take it, it waits on the link (R137); in OFFLINE it is
lost at once (R133). -/
def modemPort (f : Frame) (handler : State → State) (s : State) : State :=
  if s.deviceState ≠ .offline ∧ modemPortFree s = false then { s with modemWaiting := s.modemWaiting ++ [f] }
  else takeForward f handler s

/-- A frame enters the return holding buffer, or is discarded with RETURN OVERRUN when it holds four (R141); on an idle
lane the arbiter chooses at once (R142). -/
def enterBuffer (f : Frame) (s : State) : State :=
  if s.returnBuffer.length < Config.returnBufferSize then chooseIfIdle { s with returnBuffer := s.returnBuffer ++ [f] }
  else addCondition .returnOverrun s

/-- A frame arrives at the radio port: it is read if it passes its check, else RETURN CHECK is added; then it enters
the buffer (R140). In OFFLINE it is lost (R133). -/
def radioPort (f : Frame) (reading : State → State) (s : State) : State :=
  if s.deviceState = .offline then s
  else enterBuffer f (if passesReturn f then reading s else addCondition .returnCheck s)

end Sys2Proof.Machine
end

