-- ==== Sys2Proof/Machine/Bursts.lean ====
section
/-! DEFINITION. What happens to a burst in flight (chapter 4): lowering (R65), leaving the accounts (R66, R92) and
truncation (R69, R70). -/

namespace Sys2Proof.Machine

/-- The burst in flight on path `p` is granted, at this level. -/
def grantedLevel (s : State) (p : PathId) : Option Nat :=
  match (pathAt s p).burst with
  | some b =>
    match b.granted with
    | .code g => some g
    | .off => none
  | none => none

/-- The in-flight weight of `m` changes from one weight of a burst to another (R63, R65, R92). -/
def reweigh (m : ModuleId) (old new : Nat) (s : State) : State :=
  let a := (moduleAt s m).accounts
  setAccounts m { a with inFlight := a.inFlight + new - old } s

/-- The part lowers path `p`'s burst to level `n` (R65). -/
def lowerBurst (p : PathId) (n : Nat) (s : State) : State :=
  match (pathAt s p).burst with
  | none => s
  | some b =>
    let m := (pathAt s p).moduleId
    let w := weightOn s m n
    let b' := { b with granted := .code n, weight := w, backoff := some (b.requested - n), lowered := true }
    let s1 := setBurst p (some b') (reweigh m b.weight w s)
    let s2 := if b.lowered then s1 else count p .lowered s1
    send (levelStepFrame p 0 (BitVec.ofNat 16 n)) s2

/-- A granted burst's share leaves its module's accounts (R66, R70); a blanked burst has none. -/
def leaveAccounts (m : ModuleId) (b : BurstRecord) (s : State) : State :=
  match b.granted with
  | .off => s
  | .code _ =>
    let a := (moduleAt s m).accounts
    setAccounts m { inFlight := a.inFlight - b.weight, committed := a.committed - (b.declared - b.next) } s

/-- The burst's share leaves the accounts, its record is removed and its grace timer with it (R66, R70). -/
def endBurst (p : PathId) (b : BurstRecord) (s : State) : State :=
  setBurst p none (leaveAccounts (pathAt s p).moduleId b s)

/-- The part ends path `p`'s burst, if it is in one, and inserts a BURST CLOSE (R70). -/
def truncateBurst (p : PathId) (s : State) : State :=
  match (pathAt s p).burst with
  | none => s
  | some b => count p .truncated (send (burstCloseFrame p 0) (endBurst p b s))

/-- Every burst in flight is truncated, in path order (R72, R175). -/
def truncateAll (s : State) : State := allPaths.foldl (fun s p => truncateBurst p s) s

/-- A frame or stray marker of path `p` is dropped and counted (R61, R62, R64, R67). -/
def dropFrame (p : PathId) (s : State) : State := count p .dropped s

end Sys2Proof.Machine
end

