-- ==== Sys2Proof/Machine/Throttle.lean ====
section
/-! DEFINITION. The Throttle Unit (chapter 6): criterion firings, clamp entry, hold expiry, release steps, commit
completions and THROTTLE NOTICE reports; with the droop line's edges and the hold timer's expiry as commands. -/

namespace Sys2Proof.Machine

/-- A THROTTLE NOTICE of a change from `old`, with the values after the event (R109). -/
def notice (m : ModuleId) (old : ThrottleState) (cause : NoticeCause) (s : State) : State :=
  let t := (moduleAt s m).throttle
  offer (.throttleNotice m old t.state cause t.strikes t.clampBackoff) s

/-- The hold timer's run under a profile, in units of 125 us (R102). -/
def holdRun (p : Profile) : Nat := holdCode p * Config.unitsPer8ms

/-- One path's lowering at a clamp entry on `m`: to its requested level less the clamp backoff in force (R105). -/
def clampPath (m : ModuleId) (p : PathId) (s : State) : State :=
  match (pathAt s p).burst with
  | none => s
  | some b =>
    match b.granted with
    | .off => s
    | .code g =>
      let limit := b.requested - (moduleAt s m).throttle.clampBackoff
      if (pathAt s p).moduleId = m ∧ limit < g then lowerBurst p limit s else s

/-- Every granted burst above its clamp limit is lowered, in path order (R105). -/
def clampEntry (m : ModuleId) (s : State) : State := allPaths.foldl (fun s p => clampPath m p s) s

/-- The throttle context that a strike under profile `p` enters (R101). -/
def struck (p : Profile) (t : ThrottleContext) : ThrottleContext :=
  if strikeLimit p ≤ t.strikes + 1 then
    { t with state := .latched, strikes := strikeLimit p, clampBackoff := clampBackoff p, holdTimer := none }
  else
    { t with state := .clamped, strikes := t.strikes + 1, clampBackoff := clampBackoff p, holdTimer := some (holdRun p) }

/-- A strike: the clamp is entered, bursts are lowered and the change is reported (R101, R105, R109). -/
def strike (m : ModuleId) (c : Criterion) (p : Profile) (s : State) : State :=
  let t := (moduleAt s m).throttle
  notice m t.state (.criterion c) (clampEntry m (setThrottle m (struck p t) s))

/-- A firing that acts on the throttle (R101). -/
def actOnThrottle (m : ModuleId) (c : Criterion) (s : State) : State :=
  let t := (moduleAt s m).throttle
  match profileOf s m with
  | none => s
  | some p =>
    match t.state with
    | .unprofiled => s
    | .latched => s
    | .clamped => setThrottle m { t with holdTimer := some (holdRun p) } s
    | .normal => strike m c p s
    | .releasing => strike m c p s

/-- A criterion fires for a module: the set first, then the throttle if the mask selects it (R99). -/
def fire (m : ModuleId) (c : Criterion) (s : State) : State :=
  let t := (moduleAt s m).throttle
  let s1 := setThrottle m { t with latched := insertCriterion c t.latched } s
  if hasCriterion (moduleAt s1 m).context.mask c then actOnThrottle m c s1 else s1

/-- A release step reaches a module (R104). -/
def takeReleaseStep (m : ModuleId) (s : State) : State :=
  let t := (moduleAt s m).throttle
  match t.state, profileOf s m with
  | .releasing, some p =>
    let b := t.clampBackoff - releaseStep p
    if b = 0 then
      notice m .releasing .release (setThrottle m { t with state := .normal, clampBackoff := 0, strikes := 0 } s)
    else setThrottle m { t with clampBackoff := b } s
  | _, _ => s

/-- A successful commit of `m` completes, with profile `p` now in force (R106). -/
def throttleTakesCommit (m : ModuleId) (p : Profile) (s : State) : State :=
  let t := (moduleAt s m).throttle
  match t.state with
  | .unprofiled =>
    notice m .unprofiled .commit
      (setThrottle m { t with state := .normal, clampBackoff := 0, strikes := 0, holdTimer := none } s)
  | .normal => s
  | .clamped | .releasing =>
    if strikeLimit p ≤ t.strikes then
      notice m t.state .commit (clampEntry m (setThrottle m
        { t with state := .latched, strikes := strikeLimit p, clampBackoff := clampBackoff p, holdTimer := none } s))
    else s
  | .latched => setThrottle m { t with strikes := min t.strikes (strikeLimit p) } s

/-- What a hold expiry does to a CLAMPED module (R103). -/
def expireHold (m : ModuleId) (s : State) : State :=
  let t := (moduleAt s m).throttle
  if hasCriterion (moduleAt s m).context.mask .droop && s.droopLine then
    match profileOf s m with
    | some p => setThrottle m { t with holdTimer := some (holdRun p) } s
    | none => s
  else notice m t.state .holdExpiry (setThrottle m { t with state := .releasing, holdTimer := none } s)

/-- HOLD_EXPIRY: the hold timer of `m` expires (R103). A stopped timer does not expire, and none runs in OFFLINE. -/
def execHoldExpiry (m : ModuleId) (s : State) : Host.Outcome State Fault Refusal :=
  if s.deviceState ≠ .offline ∧ (moduleAt s m).throttle.holdTimer.isSome then .next (expireHold m s) else .next s

/-- DROOP_ASSERTING_EDGE: DROOP fires on each module, except in OFFLINE (R114). No rule orders the four firings (R99,
R114); that they are taken module 0 first, each with its own LEVEL STEPs and notice, is the model's choice (log entry
22). -/
def execDroopAssertingEdge (s : State) : Host.Outcome State Fault Refusal :=
  let s1 := { s with droopLine := true }
  if s.deviceState = .offline then .next s1
  else .next (allModules.foldl (fun s m => fire m .droop s) s1)

/-- DROOP_RELEASING_EDGE: nothing fires; later hold expiries read the level (R114, R103). -/
def execDroopReleasingEdge (s : State) : Host.Outcome State Fault Refusal :=
  .next { s with droopLine := false }

end Sys2Proof.Machine
end

