-- ==== Sys2Proof/Machine/Modules.lean ====
section
/-! DEFINITION. The Module Unit (chapter 2): TELEMETRY frames, the temperature filter, thermal grading, the silence
timer, and the OVERCURRENT, REFLECTION and SILENCE criteria. -/

namespace Sys2Proof.Machine

/-- A start or restart of the silence timer under a code; code 0 stops it (R30). -/
def silenceRun (code : Nat) : Option Nat := if code = 0 then none else some (code * Config.unitsPer64ms)

/-- The grade computed afresh from 0, or 7 on a module without a profile (R26, R28). -/
def freshGrade (p : Option Profile) (f : Int) : Nat :=
  match p with
  | some p => risingGrade p f 7
  | none => 7

/-- The grade re-evaluated in FRESH; an unprofiled module's stays (R26, R27). -/
def nextGrade (p : Option Profile) (f : Int) (g : Nat) : Nat :=
  match p with
  | some p => regrade p f g
  | none => g

/-- The filter's step: one part in 2^k of the difference, rounded toward negative infinity (R24). -/
def filterStep (f reading : Int) (k : Nat) : Int := f + (reading - f) / 2 ^ k

/-- The entry after a temperature reading (R23, R24, R27, R28, R30). Lean's `/` on Int rounds toward negative infinity
for a positive divisor. -/
def readTemperature (p : Option Profile) (reading : Int) (c : ModuleContext) : ModuleContext :=
  let c1 := { c with telemetry := .fresh, silenceTimer := silenceRun c.silenceCode }
  match c.telemetry, c.filtered with
  | .fresh, some f =>
    let f' := filterStep f reading c.filterShift
    { c1 with filtered := some f', thermalGrade := nextGrade p f' c.thermalGrade }
  | _, _ => { c1 with filtered := some reading, thermalGrade := freshGrade p reading }

def takeTemperature (m : ModuleId) (w : Word) (s : State) : State :=
  setContext m (readTemperature (profileOf s m) (temperatureReading w) (moduleAt s m).context) s

/-- A current reading is stored, and fires OVERCURRENT above the limit (R32). -/
def takeCurrent (m : ModuleId) (w : Word) (s : State) : State :=
  let c := (moduleAt s m).context
  let s1 := setContext m { c with lastCurrent := some w.toNat } s
  if c.currentLimit < w.toNat then fire m .overcurrent s1 else s1

/-- A reflection reading is stored, and fires REFLECTION above the limit (R33). -/
def takeReflection (m : ModuleId) (w : Word) (s : State) : State :=
  let c := (moduleAt s m).context
  let s1 := setContext m { c with lastReflection := some (reflectionReading w) } s
  if c.reflectionLimit < reflectionReading w then fire m .reflection s1 else s1

/-- The Module Unit takes a TELEMETRY frame's fields, in order, each if its presence flag is set (R21, R34). -/
def readTelemetry (moduleWord presence temperature current reflection : Word) (s : State) : State :=
  match wordModule moduleWord with
  | none => s
  | some m =>
    let s1 := if presence.getLsbD 0 then takeTemperature m temperature s else s
    let s2 := if presence.getLsbD 1 then takeCurrent m current s1 else s1
    if presence.getLsbD 2 then takeReflection m reflection s2 else s2

/-- TELEMETRY: read by the Module Unit, then placed in the return holding buffer unchanged (R21, R140). -/
def execTelemetry (spare : BitVec 12) (moduleWord presence temperature current reflection : Word) (s : State) :
    Host.Outcome State Fault Refusal :=
  .next (radioPort (telemetryFrame spare moduleWord presence temperature current reflection)
    (readTelemetry moduleWord presence temperature current reflection) s)

/-- What a silence expiry does (R31, R23). -/
def expireSilence (m : ModuleId) (s : State) : State :=
  let c := { (moduleAt s m).context with silenceTimer := none }
  if c.telemetry = .fresh then
    fire m .silence (setContext m { c with telemetry := .stale, thermalGrade := 7 } s)
  else setContext m c s

/-- SILENCE_TIMER_EXPIRY (R31). A stopped timer does not expire, and none runs in OFFLINE. -/
def execSilenceTimerExpiry (m : ModuleId) (s : State) : Host.Outcome State Fault Refusal :=
  if s.deviceState ≠ .offline ∧ (moduleAt s m).context.silenceTimer.isSome then .next (expireSilence m s) else .next s

end Sys2Proof.Machine
end

