-- ==== Sys2Proof/Machine/Window.lean ====
section
/-! DEFINITION. The Window Unit (chapter 3): accrual with saturation, the ring advance, the energy grade, the SLOPE test
and the start of scrubs. -/

namespace Sys2Proof.Machine

/-- The energy grade under a profile; a module without one keeps its grade (R47, R48). -/
def gradeEnergy (p : Option Profile) (r : Ring) : Ring :=
  match p with
  | some p => { r with energyGrade := energyGradeOf p r.windowEnergy }
  | none => r

/-- The higher of a bin's peak level and a frame's level (R40). -/
def raisePeak (peak : Option Nat) (g : Nat) : Option Nat :=
  match peak with
  | some h => some (max h g)
  | none => some g

/-- What a bin can still take of a weight, and of one frame (R41). -/
def energyTaken (b : Bin) (w : Nat) : Nat := min w (Config.maxBinEnergy - b.energy)
def framesTaken (b : Bin) : Nat := min 1 (Config.maxBinFrames - b.frames)

/-- A ring's current bin. -/
def currentBin (r : Ring) : Bin := r.bins[r.current.val]'r.current.isLt

/-- One frame of weight `w` and level `g` enters the current bin and the sums (R40, R41). -/
def accrueRing (w g : Nat) (r : Ring) : Ring :=
  let b := currentBin r
  let b' : Bin := ⟨b.energy + energyTaken b w, b.frames + framesTaken b, raisePeak b.peak g⟩
  { r with
    bins := r.bins.set r.current.val b' r.current.isLt,
    windowEnergy := r.windowEnergy + energyTaken b w,
    windowFrames := r.windowFrames + framesTaken b }

/-- A forwarded sample frame is accrued on module `m`, and the energy grade evaluated (R40, R47). -/
def accrue (m : ModuleId) (w g : Nat) (s : State) : State :=
  setRing m (gradeEnergy (profileOf s m) (accrueRing w g (moduleAt s m).ring)) s

/-- The bin after `i` in ring order (R37). -/
def nextBin (i : BinId) : BinId := ⟨(i.val + 1) % 32, Nat.mod_lt _ (by decide)⟩

/-- Stages 1 to 3 of the ring advance: the oldest bin leaves the window and becomes current, cleared; its timer
starts with the bin period code standing (R45, R43). -/
def advanceRing (code : Nat) (r : Ring) : Ring :=
  let i := nextBin r.current
  let b := r.bins[i.val]'i.isLt
  { r with
    current := i,
    windowEnergy := r.windowEnergy - b.energy,
    windowFrames := r.windowFrames - b.frames,
    bins := r.bins.set i.val .empty i.isLt,
    binTimer := code * Config.unitsPer8ms }

/-- The SLOPE test fires (R50). -/
def slopeFires (c : ModuleContext) (reference : Option Int) : Bool :=
  match c.telemetry, reference, c.filtered with
  | .fresh, some r, some f => decide ((c.slopeLimit : Int) < f - r)
  | _, _, _ => false

/-- What the slope reference becomes (R49). -/
def nextReference (c : ModuleContext) : Option Int :=
  match c.telemetry with
  | .none => none
  | .fresh => c.filtered
  | .stale => c.filtered

/-- Stage 5: the SLOPE test, then the slope reference is recorded (R49, R50). -/
def slopeStage (m : ModuleId) (s : State) : State :=
  let c := (moduleAt s m).context
  let r := (moduleAt s m).ring
  let s1 := setRing m { r with slopeReference := nextReference c } s
  if slopeFires c r.slopeReference then fire m .slope s1 else s1

/-- A commit of module `m` is in progress. -/
def committing (s : State) (m : ModuleId) : Bool :=
  match s.longCommand with
  | .commit m' _ => m' == m
  | _ => false

/-- The conditions under which a scrub starts (R52). -/
def scrubMayStart (s : State) (m : ModuleId) : Bool :=
  (moduleAt s m).active.isSome && !committing s m && !(moduleAt s m).scrub &&
    (s.deviceState == .standby || s.deviceState == .governing)

/-- Stage 7: at index 0 a scrub is asked for (R45, R52). -/
def scrubStage (m : ModuleId) (s : State) : State :=
  if (moduleAt s m).ring.current = 0 ∧ scrubMayStart s m then setScrub m true s else s

/-- The ring advance of module `m` (R45). -/
def advance (m : ModuleId) (s : State) : State :=
  let x := moduleAt s m
  let s1 := setRing m (gradeEnergy (profileOf s m) (advanceRing x.context.binPeriodCode x.ring)) s
  scrubStage m (takeReleaseStep m (slopeStage m s1))

/-- BIN_EXPIRY: the ring of `m` advances (R45). No bin timer runs in OFFLINE (R43). -/
def execBinExpiry (m : ModuleId) (s : State) : Host.Outcome State Fault Refusal :=
  if s.deviceState = .offline then .next s else .next (advance m s)

end Sys2Proof.Machine
end

