-- ==== Sys2Proof/Machine/Admission.lean ====
section
/-! DEFINITION. The Admission Unit with the Headroom Arbiter (chapter 5): the verdict and the granted level of a burst,
the headroom search and pre-emption. -/

namespace Sys2Proof.Machine

/-- What admission gives a burst: verdict, level, weight, and how many bursts it pre-empted (R77, R95). -/
structure Decision where
  verdict : Verdict
  granted : Level
  weight : Nat
  preempted : Nat
  deriving DecidableEq, Repr

/-- A blank: level OFF, weight 0 (R79). -/
def blankFor (reason : BlankReason) (preempted : Nat) : Decision := ⟨.blank reason, .off, 0, preempted⟩

/-- The first three tests of every admission (R78). -/
def openingBlank (d : DeviceState) (enabled : Bool) : Option BlankReason :=
  match d with
  | .lockdown => some .lockdown
  | .selftest | .testing => some .testing
  | .offline | .standby | .governing => if enabled then none else some .pathOff

/-- The clamp backoff that admission applies, where a clamp is in force (R81, R84, R97). -/
def clampInForce (t : ThrottleContext) : Option Nat :=
  match t.state with
  | .clamped | .releasing | .latched => some t.clampBackoff
  | .unprofiled | .normal => none

/-- The level and verdict of R81 for requested level `r`, under the standby ceiling and a clamp if there is one. -/
def ceilingGrant (r ceiling : Nat) (clamp : Option Nat) : Nat × Verdict :=
  let top := min r ceiling
  match clamp with
  | some b =>
    let limit := r - b
    let g := min top limit
    (g, if g = r then .pass else if limit ≤ top then .trim .clamp else .trim .ceiling)
  | none => (top, if top = r then .pass else .trim .ceiling)

/-- Admission in STANDBY, and in GOVERNING on a module without a profile (R81). -/
def admitStandby (m : ModuleId) (r : Nat) (s : State) : Decision :=
  let x := moduleAt s m
  let clamp := if x.active.isSome then clampInForce x.throttle else none
  let g := ceilingGrant r s.standbyCeiling clamp
  ⟨g.2, .code g.1, weightOn s m g.1, 0⟩

/-- The duty test: the burst would carry the module past its allowance (R4, R83). -/
def overDuty (allowance : Option Nat) (windowFrames committed length : Nat) : Bool :=
  match allowance with
  | none => false
  | some a => decide (16 * a < windowFrames + committed + length)

/-- The effective backoff (R84). -/
def effectiveBackoff (recordBackoff : Nat) (clamp : Option Nat) : Nat :=
  match clamp with
  | some b => max recordBackoff b
  | none => recordBackoff

/-- The highest level at or below `g` whose weight fits the headroom beside the weight in flight (R85, R86). -/
def highestFit (p : Profile) (headroom inFlight : Nat) : Nat → Option Nat
  | 0 => if inFlight + weight p 0 ≤ headroom then some 0 else none
  | g + 1 => if inFlight + weight p (g + 1) ≤ headroom then some (g + 1) else highestFit p headroom inFlight g

/-- The verdict of a grant without pre-emption: by the backoff when the first level fits, else HEADROOM (R85, R86). -/
def grantVerdict (recordBackoff b g0 g : Nat) : Verdict :=
  if g = g0 then (if b = recordBackoff then .pass else .trim .clamp) else .trim .headroom

/-- A burst that a pre-emption on `m` lowers: granted above level 0, of class DATA (R87). -/
def preemptible (s : State) (m : ModuleId) (q : PathId) : Bool :=
  (pathAt s q).moduleId == m && (pathAt s q).trafficClass == .data &&
    match grantedLevel s q with
    | some g => decide (0 < g)
    | none => false

/-- The bursts to pre-empt, in path order (R87, R88). -/
def victims (s : State) (m : ModuleId) : List PathId := allPaths.filter (preemptible s m)

/-- The victims are lowered to level 0, lowest path first (R88). -/
def preempt (qs : List PathId) (s : State) : State := qs.foldl (fun s q => lowerBurst q 0 s) s

/-- The record in force of module `m` under profile `p` (R15). -/
def recordInForce (p : Profile) (x : ModuleState) : Record :=
  readRecord p x.context.thermalGrade x.ring.energyGrade

/-- After the class and duty tests: the level search, and pre-emption for VOICE and SIGNALLING (R84 to R89). -/
def admitHeadroom (m : ModuleId) (cls : TrafficClass) (p : Profile) (r : Nat) (s : State) : Decision × State :=
  let x := moduleAt s m
  let rec_ := recordInForce p x
  let b := effectiveBackoff rec_.backoff (clampInForce x.throttle)
  let g0 := r - b
  match highestFit p rec_.headroom x.accounts.inFlight g0 with
  | some g => (⟨grantVerdict rec_.backoff b g0 g, .code g, weight p g, 0⟩, s)
  | none =>
    if cls = .data ∨ victims s m = [] then (blankFor .headroom 0, s)
    else
      let s1 := preempt (victims s m) s
      match highestFit p rec_.headroom (moduleAt s1 m).accounts.inFlight g0 with
      | some g => (⟨.trim .preempt, .code g, weight p g, (victims s m).length⟩, s1)
      | none => (blankFor .headroom (victims s m).length, s1)

/-- Admission in GOVERNING on a module with profile `p` (R82 to R89). -/
def admitGoverning (m : ModuleId) (cls : TrafficClass) (p : Profile) (length r : Nat) (s : State) : Decision × State :=
  let x := moduleAt s m
  let rec_ := recordInForce p x
  if !admits rec_.classes cls then (blankFor .notAdmitted 0, s)
  else if overDuty rec_.allowance x.ring.windowFrames x.accounts.committed length then (blankFor .duty 0, s)
  else admitHeadroom m cls p r s

/-- The admission decision for a burst of path `p`, with the state that any pre-emption leaves (R77, R78). -/
def decideAdmission (p : PathId) (length r : Nat) (s : State) : Decision × State :=
  let c := pathAt s p
  match openingBlank s.deviceState c.enabled with
  | some reason => (blankFor reason 0, s)
  | none =>
    match s.deviceState, profileOf s c.moduleId with
    | .governing, some prof => admitGoverning c.moduleId c.trafficClass prof length r s
    | _, _ => (admitStandby c.moduleId r s, s)

/-- A grant joins its module's accounts; a blank leaves them (R79, R90). -/
def joinAccounts (m : ModuleId) (d : Decision) (length : Nat) (s : State) : State :=
  match d.granted with
  | .off => s
  | .code _ =>
    let a := (moduleAt s m).accounts
    setAccounts m ⟨a.inFlight + d.weight, a.committed + length⟩ s

/-- The BURST VERDICT report, where the path's verdict reporting is on (R95). -/
def reportVerdict (p : PathId) (d : Decision) (length r : Nat) (s : State) : State :=
  let c := pathAt s p
  let x := moduleAt s c.moduleId
  if c.reporting then
    offer (.burstVerdict p c.moduleId d.verdict r d.granted length x.context.thermalGrade x.ring.energyGrade
      x.accounts.inFlight d.preempted) s
  else s

/-- The burst record an admission creates (R56, R58, R90); its grace timer starts (R68). -/
def newRecord (d : Decision) (length r graceCode : Nat) : BurstRecord :=
  { declared := length, requested := r, granted := d.granted, weight := d.weight,
    backoff := match d.granted with
      | .code g => some (r - g)
      | .off => none
    verdict := d.verdict, next := 0, forwarded := 0, lowered := false, grace := length + graceCode }

/-- The admission counter that grows for a verdict (R58). -/
def verdictCounter : Verdict → CounterName
  | .pass => .passed
  | .trim _ => .trimmed
  | .blank _ => .blanked

/-- A burst requesting level `r` opens on an IDLE path, up to the forwarding of its marker (R58, R77). -/
def openBurst (p : PathId) (length r : Nat) (s : State) : Level × State :=
  let ds := decideAdmission p length r s
  let s1 := joinAccounts (pathAt s p).moduleId ds.1 length ds.2
  let s2 := reportVerdict p ds.1 length r s1
  let s3 := setBurst p (some (newRecord ds.1 length r s.graceCode)) s2
  (ds.1.granted, count p (verdictCounter ds.1.verdict) s3)

end Sys2Proof.Machine
end

