-- ==== Sys2Proof/Machine/Markers.lean ====
section
/-! DEFINITION. The Burst Unit's commands (chapter 4): BURST OPEN, SAMPLE, LEVEL STEP, BURST CLOSE and the grace timer's
expiry. -/

namespace Sys2Proof.Machine

/-! ### BURST OPEN -/

/-- The Burst Unit takes a BURST OPEN (R57, R58, R59). Only the level word is rewritten (R138). -/
def takeBurstOpen (p : PathId) (spare : BitVec 9) (declared level : Word) (s : State) : State :=
  let s1 := truncateBurst p s
  match openLevel level with
  | .off => send (burstOpenFrame p spare declared level) s1
  | .code r =>
    let o := openBurst p (declaredLength declared) r s1
    send (burstOpenFrame p spare declared (levelWord o.1)) o.2

/-- BURST_OPEN (R58). -/
def execBurstOpen (p : PathId) (spare : BitVec 9) (declared level : Word) (s : State) :
    Host.Outcome State Fault Refusal :=
  .next (modemPort (burstOpenFrame p spare declared level) (takeBurstOpen p spare declared level) s)

/-! ### SAMPLE -/

/-- A sample frame of a granted burst is forwarded: accrued, passed over and counted (R60). -/
def forwardSample (p : PathId) (f : Frame) (position g : Nat) (b : BurstRecord) (s : State) : State :=
  let m := (pathAt s p).moduleId
  let s1 := accrue m b.weight g (send f s)
  let a := (moduleAt s1 m).accounts
  let s2 := setAccounts m { a with committed := a.committed - (position + 1 - b.next) } s1
  count p .forwarded (setBurst p (some { b with next := position + 1, forwarded := b.forwarded + 1 }) s2)

/-- The Burst Unit takes a SAMPLE frame: forwarded in position on a granted burst, else dropped (R60, R61, R62). -/
def takeSample (p : PathId) (f : Frame) (position : Nat) (s : State) : State :=
  match (pathAt s p).burst with
  | none => dropFrame p s
  | some b =>
    match b.granted with
    | .off => dropFrame p s
    | .code g =>
      if b.next ≤ position ∧ position < b.declared then forwardSample p f position g b s else dropFrame p s

/-- SAMPLE (R60). -/
def execSample (p : PathId) (spare : BitVec 9) (position : Word) (samples : List Word) (s : State) :
    Host.Outcome State Fault Refusal :=
  .next (modemPort (sampleFrame p spare position samples)
    (takeSample p (sampleFrame p spare position samples) position.toNat) s)

/-! ### LEVEL STEP -/

/-- The new granted level of a burst at `g` with applied backoff `a`, asked for `r` (R63). -/
def steppedLevel (g a r : Nat) : Nat := min g (r - a)

/-- A modem LEVEL STEP on a granted burst (R63). -/
def stepBurst (p : PathId) (spare : BitVec 9) (r g : Nat) (b : BurstRecord) (s : State) : State :=
  let m := (pathAt s p).moduleId
  let n := steppedLevel g (b.backoff.getD 0) r
  let w := if n < g then weightOn s m n else b.weight
  let s1 := reweigh m b.weight w s
  let b' := { b with requested := r, granted := .code n, weight := w, backoff := some (r - n) }
  send (levelStepFrame p spare (BitVec.ofNat 16 n)) (setBurst p (some b') s1)

/-- The Burst Unit takes a LEVEL STEP from the modem (R63, R64). -/
def takeLevelStep (p : PathId) (spare : BitVec 9) (level : Word) (s : State) : State :=
  match (pathAt s p).burst with
  | none => dropFrame p s
  | some b =>
    match b.granted with
    | .off => send (levelStepFrame p spare (levelWord .off)) s
    | .code g => stepBurst p spare (stepLevel level) g b s

/-- LEVEL_STEP (R63). -/
def execLevelStep (p : PathId) (spare : BitVec 9) (level : Word) (s : State) : Host.Outcome State Fault Refusal :=
  .next (modemPort (levelStepFrame p spare level) (takeLevelStep p spare level) s)

/-! ### BURST CLOSE and the grace timer -/

/-- The Burst Unit takes a BURST CLOSE (R66, R67). -/
def takeBurstClose (p : PathId) (spare : BitVec 9) (s : State) : State :=
  match (pathAt s p).burst with
  | none => dropFrame p s
  | some b => send (burstCloseFrame p spare) (endBurst p b s)

/-- BURST_CLOSE (R66). -/
def execBurstClose (p : PathId) (spare : BitVec 9) (s : State) : Host.Outcome State Fault Refusal :=
  .next (modemPort (burstCloseFrame p spare) (takeBurstClose p spare) s)

/-- GRACE_EXPIRY: the burst is truncated (R69). The timer runs exactly while the path is in a burst (R68), and no
timer runs in OFFLINE. -/
def execGraceExpiry (p : PathId) (s : State) : Host.Outcome State Fault Refusal :=
  if s.deviceState = .offline then .next s else .next (truncateBurst p s)

end Sys2Proof.Machine
end

