-- ==== Sys2Proof/Machine/Load.lean ====
section
/-! DEFINITION. The Load Unit's loading of segments (sections 7.1 to 7.5): SEGMENT frames, LOAD RESULT reports and the
gap timer's expiry. -/

namespace Sys2Proof.Machine

/-- Words written into the shadow from word `i` on; words past the profile's 410, the padding, are not stored
(R119, R150). -/
def writeWords (p : Profile) : Nat → List Word → Profile
  | _, [] => p
  | i, w :: ws => writeWords (p.setIfInBounds i w) (i + 1) ws

/-- The gap timer's run, in units of 125 us (R122). -/
def gapRun (code : Nat) : Nat := code * Config.unitsPer10ms

/-- A load ends: the context is gone with its gap timer, the shadow takes `sh`, and a LOAD RESULT is queued (R116,
R120). -/
def endLoad (l : LoadContext) (outcome : LoadOutcome) (received : Option Nat) (sh : ShadowState) (s : State) : State :=
  offer (.loadResult outcome l.start l.count l.taken received) { s with load := none, shadowState := sh }

/-- The expected segment is accepted (R119). -/
def acceptSegment (l : LoadContext) (words : List Word) (s : State) : State :=
  let l' := { l with expected := l.expected + 1, taken := l.taken + 1, gapTimer := gapRun l.gapCode }
  let s1 := { s with shadow := writeWords s.shadow (32 * l.expected) words }
  if l'.taken = l'.count then endLoad l' .complete none .ready s1 else { s1 with load := some l' }

/-- The Load Unit takes a SEGMENT frame (R119, R121, R125). -/
def takeSegment (index : Word) (words : List Word) (s : State) : State :=
  match s.load with
  | none => addCondition .loadProtocol s
  | some l =>
    if index.toNat = l.expected then acceptSegment l words s
    else endLoad l .order (some (index.toNat % 16)) .incomplete s

/-- SEGMENT with the part's node number (R119). -/
def execSegment (index : Word) (words : List Word) (s : State) : Host.Outcome State Fault Refusal :=
  .next (modemPort (segmentFrame s.nodeNumber index words) (takeSegment index words) s)

/-- GAP_TIMER_EXPIRY: an open load ends TIMEOUT (R123). The timer runs exactly while a load is open (R122). -/
def execGapTimerExpiry (s : State) : Host.Outcome State Fault Refusal :=
  match s.load with
  | none => .next s
  | some l => .next (endLoad l .timeout none .incomplete s)

end Sys2Proof.Machine
end

