-- ==== Sys2Proof/Machine/Device.lean ====
section
/-! DEFINITION. The Device Controller (chapter 10) and the commit's completion (section 7.7): resets, self-tests, scrubs,
LOCKDOWN, and the completions of the long operations. -/

namespace Sys2Proof.Machine

/-! ### Ending what is in progress -/

/-- The shadow after TABLE STORE: EMPTY, every word zero (R171, R18). -/
def emptyShadow (s : State) : State := { s with shadow := .zero, shadowState := .empty }

/-- The test is selected (R149, R169). -/
def selected (tests : TestSet) (t : SelfTest) : Bool := tests.getLsbD (testBit t)

/-- The long command is abandoned: a commit leaves the shadow READY (R132), a test run with TABLE STORE leaves it EMPTY
(R171, R175). The rings stand as they are (R171). -/
def abandonLongCommand (s : State) : State :=
  match s.longCommand with
  | .none => s
  | .commit _ _ => { s with longCommand := .none, shadowState := .ready }
  | .runTests tests =>
    let s1 := { s with longCommand := .none, ringFault := none }
    if selected tests .tableStore then emptyShadow s1 else s1

/-- An open load is cut, with no LOAD RESULT (R120, R175, R177). -/
def cutLoad (s : State) : State :=
  match s.load with
  | none => s
  | some _ => { s with load := none, shadowState := .incomplete }

/-- Every scrub in progress is abandoned (R175, R176, R177). -/
def abandonScrubs (s : State) : State := allModules.foldl (fun s m => setScrub m false s) s

/-- Entry into LOCKDOWN (R177). -/
def enterLockdown (cause : LockdownCause) (s : State) : State :=
  let s1 := abandonScrubs (cutLoad (abandonLongCommand s))
  reportDeviceState { s1 with lockdownCause := cause, deviceState := .lockdown }

/-- An ANSWER report is queued (R153). -/
def answer (code : Word) (outcome : AnswerOutcome) (detail : List Word) (s : State) : State :=
  offer (.answer code outcome detail) s

/-! ### Resets -/

/-- The node number the strap pins give, NSEL1 the more significant (R133, R178). -/
def strapNumber (nsel1 nsel0 : Bool) : Fin 4 :=
  match nsel1, nsel0 with
  | false, false => 0
  | false, true => 1
  | true, false => 2
  | true, true => 3

/-- Every block at its reset values but the node number; the pins and the waiting commands stand (R166). -/
def resetBlocks (s : State) : State :=
  { State.reset with
    pending := s.pending, droopLine := s.droopLine, nsel1 := s.nsel1, nsel0 := s.nsel0, nodeNumber := s.nodeNumber }

/-- The node number is sampled from the straps as they stand (R133). -/
def sampleNode (s : State) : State := { s with nodeNumber := strapNumber s.nsel1 s.nsel0 }

/-- HARD RESET: as the reset pin, but a frame partly sent toward the modem is sent to its end, and the frames waiting
on the link still come (R167, R141). -/
def hardReset (s : State) : State :=
  { sampleNode (resetBlocks s) with returnLane := s.returnLane, modemWaiting := s.modemWaiting }

/-- RESET_PIN_ASSERTION: OFFLINE, everything in progress ceases (R166), and the node number is kept until the next
sampling (R133). The fields that then have no value (R165) are held at their reset values (log entry 6). -/
def execResetPinAssertion (s : State) : Host.Outcome State Fault Refusal :=
  .next { resetBlocks s with deviceState := .offline }

/-- RESET_PIN_RELEASE: reset values, node number sampled from the straps as they stand, power-up begins (R166, R168). -/
def execResetPinRelease (nsel1 nsel0 : Bool) (s : State) : Host.Outcome State Fault Refusal :=
  .next (sampleNode (resetBlocks { s with nsel1 := nsel1, nsel0 := nsel0 }))

/-! ### Self-tests -/

/-- The first profiled module, in order, whose check value differs from its stored check (R173). -/
def firstMismatch (s : State) : Option ModuleId :=
  allModules.find? fun m =>
    match (moduleAt s m).active with
    | some a => profileCheck a.words != a.check
    | none => false

/-- The failure of one test of a run, if it is selected and failed (R170 to R173). -/
def testFailure (tests : TestSet) (table ring : Option StoreFault) (loop : Option LoopFault) (bad : Option ModuleId)
    (t : SelfTest) : Option (SelfTest × TestReason) :=
  if selected tests t then
    match t with
    | .tableStore => table.map fun f => (t, .store f)
    | .ringStore => ring.map fun f => (t, .store f)
    | .loopback => loop.map fun f => (t, .link f)
    | .profileCheck => bad.map fun m => (t, .profileOf m)
  else none

/-- The failures of a run, in the order in which the tests run (R170). -/
def runFailures (tests : TestSet) (table ring : Option StoreFault) (loop : Option LoopFault) (bad : Option ModuleId) :
    List (SelfTest × TestReason) :=
  [SelfTest.tableStore, .ringStore, .loopback, .profileCheck].filterMap (testFailure tests table ring loop bad)

/-- The three test results of a run (R168, R174). -/
def resultsOf (fs : List (SelfTest × TestReason)) : TestResults :=
  { failed := fs.foldl (fun t f => t ||| (1#4 <<< testBit f.1)) 0,
    last := fs.getLast?.map (·.1),
    reason := fs.getLast?.map (·.2) }

/-- A failure that takes the device to LOCKDOWN (R174). -/
def critical (fs : List (SelfTest × TestReason)) : Bool :=
  fs.any fun f => f.1 == .tableStore || f.1 == .profileCheck

/-- The power-up tests are TABLE STORE and RING STORE (R168). -/
def powerUpTests : TestSet := 0b0011

/-- The power-up tests complete (R168). -/
def completePowerUp (table ring : Option StoreFault) (s : State) : State :=
  let fs := runFailures powerUpTests table (s.ringFault.or ring) none none
  let s1 := { s with testResults := resultsOf fs, ringFault := none }
  if critical fs then enterLockdown .test s1 else reportDeviceState { s1 with deviceState := .standby }

/-- POWER_UP_TESTS_COMPLETION (R168): only in SELFTEST are the power-up tests in progress. -/
def execPowerUpTestsCompletion (table ring : Option StoreFault) (s : State) : Host.Outcome State Fault Refusal :=
  if s.deviceState = .selftest then .next (completePowerUp table ring s) else .next s

/-- The test run of `tests` completes (R174). -/
def completeTestRun (tests : TestSet) (table ring : Option StoreFault) (loop : Option LoopFault) (s : State) : State :=
  let fs := runFailures tests table (s.ringFault.or ring) loop (firstMismatch s)
  let r := resultsOf fs
  let s1 := { s with testResults := r, ringFault := none }
  let s2 := if critical fs then enterLockdown .test s1 else { s1 with deviceState := .standby }
  answer (commandCode .runTests) (if fs = [] then .done else .failed)
    [r.failed.setWidth 16, testWord r.last, testReasonWord r.reason] { s2 with longCommand := .none }

/-- TEST_RUN_COMPLETION (R174): nothing completes when no run is in progress. -/
def execTestRunCompletion (table ring : Option StoreFault) (loop : Option LoopFault) (s : State) :
    Host.Outcome State Fault Refusal :=
  match s.longCommand with
  | .runTests tests => .next (completeTestRun tests table ring loop s)
  | .commit _ _ => .next s
  | .none => .next s

/-- RING STORE is among the tests in progress (R168, R170). -/
def ringStoreRuns (s : State) : Bool :=
  match s.longCommand with
  | .runTests tests => selected tests .ringStore
  | .commit _ _ => false
  | .none => s.deviceState == .selftest

/-- RING_STORE_BIN_EXAMINATION: one bin's fields are held aside, tested over and written back, so the ring is as it
was; what the examination found is recorded for the run, the first finding standing (R170, R171). -/
def execRingStoreBinExamination (m : ModuleId) (bin : BinId) (found : Option StoreFault) (s : State) :
    Host.Outcome State Fault Refusal :=
  let r := (moduleAt s m).ring
  let held := r.bins[bin.val]'bin.isLt
  if ringStoreRuns s then
    .next (setRing m { r with bins := r.bins.set bin.val held bin.isLt } { s with ringFault := s.ringFault.or found })
  else .next s

/-! ### Scrubs -/

/-- The scrub of `m` completes (R176). -/
def completeScrub (m : ModuleId) (s : State) : State :=
  let s1 := setScrub m false s
  match (moduleAt s m).active with
  | some a => if profileCheck a.words = a.check then s1 else enterLockdown (.scrub m) s1
  | none => s1

/-- SCRUB_COMPLETION (R176): nothing completes when no scrub of `m` is in progress. -/
def execScrubCompletion (m : ModuleId) (s : State) : Host.Outcome State Fault Refusal :=
  if (moduleAt s m).scrub then .next (completeScrub m s) else .next s

/-! ### The commit's completion -/

/-- The thermal grade at a commit's completion: from 0 in FRESH, 7 otherwise (R28, R130). -/
def committedGrade (p : Profile) (c : ModuleContext) : Nat :=
  match c.telemetry, c.filtered with
  | .fresh, some f => risingGrade p f 7
  | _, _ => 7

/-- The new profile is put in force and the module's grades re-evaluated (R130, steps 1 to 3). -/
def putInForce (m : ModuleId) (a : ActiveProfile) (s : State) : State :=
  let x := moduleAt s m
  setModuleAt m { x with
    active := some a,
    context := { x.context with thermalGrade := committedGrade a.words x.context },
    ring := gradeEnergy (some a.words) x.ring } s

/-- The commit is over and the shadow READY again (R130, R131). -/
def endCommit (s : State) : State := { s with shadowState := .ready, longCommand := .none }

/-- The commit of `m` completes (R129, R130, R131). -/
def completeCommit (m : ModuleId) (check : CheckValue) (s : State) : State :=
  match commitFailure s.shadow check with
  | none =>
    answer (commandCode .commit) .done [BitVec.ofNat 16 m.val, 0]
      (endCommit (throttleTakesCommit m s.shadow (putInForce m ⟨s.shadow, check⟩ s)))
  | some f => answer (commandCode .commit) .failed [BitVec.ofNat 16 m.val, failureWord f] (endCommit s)

/-- COMMIT_COMPLETION (R129): nothing completes when no commit is in progress. -/
def execCommitCompletion (s : State) : Host.Outcome State Fault Refusal :=
  match s.longCommand with
  | .commit m check => .next (completeCommit m check s)
  | .runTests _ => .next s
  | .none => .next s

end Sys2Proof.Machine
end

