-- ==== Sys2Proof/Machine/Entries.lean ====
section
/-! DEFINITION. What the three reading commands return (R157, R158, R159): READ STATUS, SNAPSHOT and READ ENTRY. -/

namespace Sys2Proof.Machine

/-- A Nat as one word. -/
def natWord (n : Nat) : Word := BitVec.ofNat 16 n

/-- An absent value is 0xFFFF (R159). -/
def optWord (n : Option Nat) : Word := (n.map natWord).getD 0xFFFF

/-- A remaining time in ms, rounded up; 0xFFFF when stopped (R159). -/
def msWord (t : Option Nat) : Word :=
  optWord (t.map fun u => (u + (Config.unitsPerMs - 1)) / Config.unitsPerMs)

/-- READ STATUS: ten words for one module (R157). -/
def moduleStatus (x : ModuleState) : List Word :=
  [throttleWord x.throttle.state, natWord x.context.thermalGrade, natWord x.ring.energyGrade] ++
    twoWords x.ring.windowEnergy ++ twoWords x.ring.windowFrames ++
    [natWord x.throttle.clampBackoff, natWord x.throttle.strikes, x.throttle.latched.setWidth 16]

/-- READ STATUS: the 41 detail words (R157). -/
def statusWords (s : State) : List Word :=
  s.status.setWidth 16 :: allModules.flatMap fun m => moduleStatus (moduleAt s m)

/-- SNAPSHOT: one path's seven counters, two words each (R158, R73). -/
def counterWords (c : Counters) : List Word :=
  [c.passed, c.trimmed, c.blanked, c.lowered, c.truncated, c.forwarded, c.dropped].flatMap fun x => twoWords x.toNat

/-- SNAPSHOT: the 113 detail words (R158). -/
def snapshotWords (s : State) : List Word :=
  counterModeWord s.counterMode :: allPaths.flatMap fun p => counterWords (pathAt s p).counters

/-! ### READ ENTRY (R159) -/

/-- Kind 1: record `i` of an active profile as stored. -/
def activeRecordWords (p : Profile) (i : Nat) : List Word :=
  [profileWord p (4 * i), profileWord p (4 * i + 1), profileWord p (4 * i + 2), profileWord p (4 * i + 3)]

/-- Kind 2: one segment of the shadow; words past the profile's end are 0. -/
def shadowSegmentWords (i : Nat) (s : State) : List Word :=
  [shadowStateWord s.shadowState, optWord (s.load.map (·.expected)), optWord (s.load.map (·.taken))] ++
    (List.range 32).map fun j => profileWord s.shadow (32 * i + j)

/-- Kind 3: one bin of a ring. -/
def ringBinWords (r : Ring) (i : BinId) : List Word :=
  let b := r.bins[i.val]'i.isLt
  twoWords b.energy ++ twoWords b.frames ++
    [optWord b.peak, boolWord (r.current == i), natWord r.current.val,
      (r.slopeReference.map (BitVec.ofInt 16)).getD 0x8000]

/-- Kind 4: the ten words of a burst record, each 0xFFFF while the path is IDLE. -/
def burstWords (b : Option BurstRecord) : List Word :=
  match b with
  | none => List.replicate 10 0xFFFF
  | some b =>
    [natWord b.declared, natWord b.requested, levelWord b.granted, natWord b.weight, optWord b.backoff,
      verdictWord b.verdict, natWord b.next, natWord b.forwarded, boolWord b.lowered, natWord b.grace]

/-- Kind 4: one path context. -/
def pathWords (c : PathContext) : List Word :=
  [boolWord c.enabled, natWord c.moduleId.val, classWord c.trafficClass, boolWord c.reporting,
    boolWord c.burst.isSome] ++ burstWords c.burst

/-- Kind 5: the presence word. -/
def presenceWord (c : ModuleContext) : Word :=
  (if c.filtered.isSome then 1 else 0) ||| (if c.lastCurrent.isSome then 2 else 0) |||
    (if c.lastReflection.isSome then 4 else 0)

/-- Kind 5: one module context, with its throttle context and admission accounts. -/
def moduleWords (x : ModuleState) : List Word :=
  let c := x.context
  let t := x.throttle
  [telemetryWord c.telemetry, presenceWord c, (c.filtered.map (BitVec.ofInt 16)).getD 0, natWord c.thermalGrade,
    (c.lastCurrent.map natWord).getD 0, (c.lastReflection.map natWord).getD 0, msWord c.silenceTimer,
    natWord c.binPeriodCode, natWord c.filterShift, natWord c.silenceCode, c.mask.setWidth 16,
    natWord c.currentLimit, natWord c.reflectionLimit, natWord c.slopeLimit,
    throttleWord t.state, natWord t.clampBackoff, natWord t.strikes, t.latched.setWidth 16, msWord t.holdTimer] ++
    twoWords x.accounts.inFlight ++ [natWord x.accounts.committed]

/-- The content of an entry, or the outcome that refuses it (R159). -/
def entryWords (kind i j : Word) (s : State) : Except AnswerOutcome (List Word) :=
  match kind.toNat with
  | 1 =>
    match wordModule i, decide (j.toNat < 64) with
    | some m, true =>
      match profileOf s m with
      | some p => .ok (activeRecordWords p j.toNat)
      | none => .error .state
    | _, _ => .error .range
  | 2 => if i.toNat ≤ 12 then .ok (shadowSegmentWords i.toNat s) else .error .range
  | 3 =>
    match wordModule i with
    | some m =>
      if h : j.toNat < 32 then .ok (ringBinWords (moduleAt s m).ring ⟨j.toNat, h⟩) else .error .range
    | none => .error .range
  | 4 =>
    match wordPath i with
    | some p => .ok (pathWords (pathAt s p))
    | none => .error .range
  | 5 =>
    match wordModule i with
    | some m => .ok (moduleWords (moduleAt s m))
    | none => .error .range
  | _ => .error .range

end Sys2Proof.Machine
end

