-- ==== Sys2Proof/Machine/Control.lean ====
section
/-! DEFINITION. The Command Unit (chapter 9): the tests of R152 on every CONTROL frame addressed to the part, the
seventeen commands, and the answer to a code that names none. -/

namespace Sys2Proof.Machine

/-! ### The tests of every command (R152, R153) -/

/-- A long command is in progress (R152). -/
def longInProgress (s : State) : Bool := s.deviceState == .testing || s.longCommand != .none

/-- A commit is in progress (R127). -/
def commitRunning (s : State) : Bool :=
  match s.longCommand with
  | .commit _ _ => true
  | _ => false

/-- A READ ENTRY of kind 2 during a commit, which returns the shadow as the commit reads it (R159, R18). -/
def readsShadowInCommit (s : State) (cmd : Command) (params : List Word) : Bool :=
  cmd == .readEntry && params.head? == some 2 && commitRunning s

/-- The outcome that answers a command without executing it, by the condition of the part (R152, test 3). During a
commit R152's table answers every READ ENTRY BUSY, while R18 and R159 have one of kind 2 return the shadow; that these
two are followed for kind 2, and the table for every other, is the model's choice (log entry 21). R76 speaks of a SET
PATH that is tested before the completion of a running commit, which the table answers BUSY; that the table is followed
is the model's choice (log entry 23). -/
def refusalFor (s : State) (cmd : Command) (params : List Word) : Option AnswerOutcome :=
  if cmd = .hardReset ∨ cmd = .identify ∨ cmd = .readStatus then none
  else if s.deviceState = .lockdown then some .state
  else if s.deviceState = .selftest then some .busy
  else if longInProgress s ∧ cmd ≠ .softRestart ∧ ¬ readsShadowInCommit s cmd params then some .busy
  else none

/-- The segments an open load has written, else 0 (R124, R153). -/
def segmentsTaken (s : State) : Nat :=
  match s.load with
  | some l => l.taken
  | none => 0

/-- The detail words of an answer that does not execute its command (R153): none, but LOAD ABORT carries the segments
taken with every outcome, and a GOVERN answered STATE for the device state carries 0xFFFF. -/
def refusalDetail (s : State) (cmd : Command) (o : AnswerOutcome) : List Word :=
  if cmd = .loadAbort then [natWord (segmentsTaken s)]
  else if cmd = .govern ∧ o = .state then [0xFFFF]
  else []

/-- A command is answered and takes no effect (R153). -/
def refuse (cmd : Command) (o : AnswerOutcome) (s : State) : State :=
  answer (commandCode cmd) o (refusalDetail s cmd o) s

/-- A command is answered DONE (R153). -/
def done (cmd : Command) (detail : List Word) (s : State) : State := answer (commandCode cmd) .done detail s

/-- The Report Queue holds 16 entries (R152, test 1). -/
def queueFull (s : State) : Bool := decide (Config.reportQueueSize ≤ s.reports.length)

/-- The Command Unit takes a CONTROL frame: full queue, condition of the part, parameter count, effect (R152). -/
def takeCommand (cmd : Command) (effect : List Word → State → State) (params : List Word) (s : State) : State :=
  if queueFull s ∧ cmd ≠ .hardReset then addCondition .reportOverflow s
  else
    match refusalFor s cmd params with
    | some o => refuse cmd o s
    | none =>
      if params.length ≠ parameterCount cmd ∧ cmd ≠ .hardReset then refuse cmd .range s else effect params s

/-- A CONTROL frame whose code names no command (R152, tests 1 and 2). -/
def takeUnknown (code : Word) (s : State) : State :=
  if queueFull s then addCondition .reportOverflow s else answer code .unknown [] s

/-- A CONTROL frame of the part's node arrives (R137). -/
def controlArrives (code : Word) (params : List Word) (handler : State → State) (s : State) : State :=
  modemPort (controlFrame s.nodeNumber code params) handler s

/-! ### Reading the part -/

/-- R154. -/
def doIdentify (_ : List Word) (s : State) : State :=
  done .identify
    [Config.vendorNumber, Config.partNumber, Config.revision, natWord s.nodeNumber.val, deviceStateWord s.deviceState] s

/-- The latched sets are emptied (R157, R100, R164). -/
def clearLatchedSets (s : State) : State :=
  allModules.foldl (fun s m => setThrottle m { (moduleAt s m).throttle with latched := 0 } s) { s with status := 0 }

/-- R157. -/
def doReadStatus (params : List Word) (s : State) : State :=
  match params with
  | [flag] =>
    match wordBool flag with
    | some clear => done .readStatus (statusWords s) (if clear then clearLatchedSets s else s)
    | none => refuse .readStatus .range s
  | _ => refuse .readStatus .range s

/-- Every counter of every path becomes 0 (R158). -/
def clearCounters (s : State) : State :=
  allPaths.foldl (fun s p => setPathAt p { pathAt s p with counters := .zero } s) s

/-- R158. -/
def doSnapshot (params : List Word) (s : State) : State :=
  match params with
  | [flag] =>
    match wordBool flag with
    | some clear => done .snapshot (snapshotWords s) (if clear then clearCounters s else s)
    | none => refuse .snapshot .range s
  | _ => refuse .snapshot .range s

/-- R159. -/
def doReadEntry (params : List Word) (s : State) : State :=
  match params with
  | [kind, i, j] =>
    match entryWords kind i j s with
    | .ok ws => done .readEntry (kind :: i :: j :: ws) s
    | .error o => refuse .readEntry o s
  | _ => refuse .readEntry .range s

/-! ### Settings -/

/-- The path's module would leave an enabled path on an unprofiled module in GOVERNING (R75, test 3). -/
def pathUnprofiled (enabled : Bool) (m : ModuleId) (s : State) : Bool :=
  s.deviceState == .governing && enabled && (moduleAt s m).active.isNone

/-- R75. -/
def doSetPath (params : List Word) (s : State) : State :=
  match params with
  | [path, enabled, mod, cls, reporting] =>
    match wordPath path, wordBool enabled, wordModule mod, wordClass cls, wordBool reporting with
    | some p, some en, some m, some c, some rep =>
      if (pathAt s p).burst.isSome then refuse .setPath .busy s
      else if pathUnprofiled en m s then refuse .setPath .state s
      else
        done .setPath [path]
          (setPathAt p { pathAt s p with enabled := en, moduleId := m, trafficClass := c, reporting := rep } s)
    | _, _, _, _, _ => refuse .setPath .range s
  | _ => refuse .setPath .range s

/-- The ranges of SET MODULE (R35). -/
def moduleSettingsInRange (bin shift silence mask : Word) : Bool :=
  decide (1 ≤ bin.toNat) && decide (bin.toNat ≤ 255) && decide (shift.toNat ≤ 7) && decide (silence.toNat ≤ 15) &&
    decide (mask.toNat < 32)

/-- The four settings are written together and the silence timer restarts (R35, R30). -/
def writeSettings (bin shift silence mask : Word) (c : ModuleContext) : ModuleContext :=
  { c with
    binPeriodCode := bin.toNat, filterShift := shift.toNat, silenceCode := silence.toNat, mask := mask.setWidth 5,
    silenceTimer := silenceRun silence.toNat }

/-- R35. -/
def doSetModule (params : List Word) (s : State) : State :=
  match params with
  | [mod, bin, shift, silence, mask] =>
    match wordModule mod, moduleSettingsInRange bin shift silence mask with
    | some m, true =>
      done .setModule [mod] (setContext m (writeSettings bin shift silence mask (moduleAt s m).context) s)
    | _, _ => refuse .setModule .range s
  | _ => refuse .setModule .range s

/-- The three limits are written together (R36). -/
def writeLimits (current reflection slope : Word) (c : ModuleContext) : ModuleContext :=
  { c with currentLimit := current.toNat, reflectionLimit := reflection.toNat, slopeLimit := slope.toNat }

/-- R36. -/
def doSetLimits (params : List Word) (s : State) : State :=
  match params with
  | [mod, current, reflection, slope] =>
    match wordModule mod, decide (reflection.toNat ≤ 255 ∧ slope.toNat ≤ 255) with
    | some m, true =>
      done .setLimits [mod] (setContext m (writeLimits current reflection slope (moduleAt s m).context) s)
    | _, _ => refuse .setLimits .range s
  | _ => refuse .setLimits .range s

/-- R155. -/
def doSetDevice (params : List Word) (s : State) : State :=
  match params with
  | [ceiling, grace, mode] =>
    match wordCounterMode mode, decide (ceiling.toNat ≤ 127 ∧ 1 ≤ grace.toNat ∧ grace.toNat ≤ 15) with
    | some cm, true =>
      done .setDevice [] { s with standbyCeiling := ceiling.toNat, graceCode := grace.toNat, counterMode := cm }
    | _, _ => refuse .setDevice .range s
  | _ => refuse .setDevice .range s

/-! ### Loading and committing -/

/-- The ranges of LOAD OPEN (R117). -/
def loadInRange (start cnt gap : Word) : Bool :=
  decide (start.toNat ≤ 12) && decide (1 ≤ cnt.toNat) && decide (cnt.toNat ≤ 13) &&
    decide (start.toNat + cnt.toNat ≤ 13) && decide (1 ≤ gap.toNat) && decide (gap.toNat ≤ 15)

/-- R117. -/
def doLoadOpen (params : List Word) (s : State) : State :=
  match params with
  | [start, cnt, gap] =>
    if !loadInRange start cnt gap then refuse .loadOpen .range s
    else if s.load.isSome then refuse .loadOpen .busy s
    else
      done .loadOpen [] { s with
        shadowState := .loading,
        load := some { start := start.toNat, count := cnt.toNat, expected := start.toNat, taken := 0,
                       gapCode := gap.toNat, gapTimer := gapRun gap.toNat } }
  | _ => refuse .loadOpen .range s

/-- R124: the LOAD RESULT first, then the answer with the segments taken. -/
def doLoadAbort (_ : List Word) (s : State) : State :=
  match s.load with
  | some l => done .loadAbort [natWord l.taken] (endLoad l .aborted none .incomplete s)
  | none => refuse .loadAbort .state s

/-- R127. No answer is queued at acceptance. -/
def doCommit (params : List Word) (s : State) : State :=
  match params with
  | [mod, hi, lo] =>
    match wordModule mod with
    | none => refuse .commit .range s
    | some m =>
      if s.load.isSome then refuse .commit .busy s
      else if s.shadowState ≠ .ready then refuse .commit .state s
      else
        setScrub m false { s with
          shadowState := .committing,
          longCommand := .commit m (BitVec.ofNat 32 (fromTwoWords hi lo)) }
  | _ => refuse .commit .range s

/-! ### Device states -/

/-- The module holds an enabled path and has no active profile (R156). -/
def lacksProfile (s : State) (m : ModuleId) : Bool :=
  (moduleAt s m).active.isNone && allPaths.any fun p => (pathAt s p).enabled && (pathAt s p).moduleId == m

/-- R156. -/
def doGovern (_ : List Word) (s : State) : State :=
  if s.deviceState = .standby then
    match allModules.find? (lacksProfile s) with
    | some m => answer (commandCode .govern) .state [natWord m.val] s
    | none => done .govern [] { s with deviceState := .governing }
  else refuse .govern .state s

/-- R156. -/
def doStandby (_ : List Word) (s : State) : State :=
  if s.deviceState = .governing then done .standby [] { s with deviceState := .standby }
  else refuse .standby .state s

/-- R107: the notice first, then the answer. -/
def doClearLatch (params : List Word) (s : State) : State :=
  match params with
  | [mod] =>
    match wordModule mod with
    | none => refuse .clearLatch .range s
    | some m =>
      let t := (moduleAt s m).throttle
      if t.state = .latched then
        done .clearLatch [mod]
          (notice m .latched .clearLatch (setThrottle m { t with state := .releasing, strikes := 0 } s))
      else refuse .clearLatch .state s
  | _ => refuse .clearLatch .range s

/-- R169. TABLE STORE's first act empties the shadow (R171). No answer is queued at acceptance. -/
def doRunTests (params : List Word) (s : State) : State :=
  match params with
  | [tests] =>
    if tests.toNat = 0 ∨ 15 < tests.toNat then refuse .runTests .range s
    else if s.deviceState ≠ .standby then refuse .runTests .state s
    else if allPaths.any (fun p => (pathAt s p).burst.isSome) ∨ s.load.isSome then refuse .runTests .busy s
    else
      let s1 := { s with deviceState := .testing, longCommand := .runTests (tests.setWidth 4), ringFault := none }
      if selected (tests.setWidth 4) .tableStore then emptyShadow s1 else s1
  | _ => refuse .runTests .range s

/-- What the SOFT RESTART answer says it abandoned and cut (R153, R175). -/
def restartDetail (s : State) : List Word :=
  let cut := boolWord s.load.isSome
  match s.longCommand with
  | .none => [0, 0xFFFF, cut]
  | .commit _ _ => [1, outcomeWord .abandoned, cut]
  | .runTests _ => [2, outcomeWord .abandoned, cut]

/-- R175, in its order: long command, load, scrubs, bursts, reports, device state, answer. -/
def doSoftRestart (_ : List Word) (s : State) : State :=
  let s1 := truncateAll (abandonScrubs (cutLoad (abandonLongCommand s)))
  done .softRestart (restartDetail s) { s1 with reports := [], reportGap := false, deviceState := .standby }

/-- R167. -/
def doHardReset (_ : List Word) (s : State) : State := hardReset s

/-! ### The commands as they arrive -/

/-- IDENTIFY (R154). -/
def execIdentify (params : List Word) (s : State) : Host.Outcome State Fault Refusal :=
  .next (controlArrives (commandCode .identify) params (takeCommand .identify doIdentify params) s)

/-- READ_STATUS (R157). -/
def execReadStatus (params : List Word) (s : State) : Host.Outcome State Fault Refusal :=
  .next (controlArrives (commandCode .readStatus) params (takeCommand .readStatus doReadStatus params) s)

/-- SET_PATH (R75). -/
def execSetPath (params : List Word) (s : State) : Host.Outcome State Fault Refusal :=
  .next (controlArrives (commandCode .setPath) params (takeCommand .setPath doSetPath params) s)

/-- SET_MODULE (R35). -/
def execSetModule (params : List Word) (s : State) : Host.Outcome State Fault Refusal :=
  .next (controlArrives (commandCode .setModule) params (takeCommand .setModule doSetModule params) s)

/-- SET_LIMITS (R36). -/
def execSetLimits (params : List Word) (s : State) : Host.Outcome State Fault Refusal :=
  .next (controlArrives (commandCode .setLimits) params (takeCommand .setLimits doSetLimits params) s)

/-- SET_DEVICE (R155). -/
def execSetDevice (params : List Word) (s : State) : Host.Outcome State Fault Refusal :=
  .next (controlArrives (commandCode .setDevice) params (takeCommand .setDevice doSetDevice params) s)

/-- LOAD_OPEN (R117). -/
def execLoadOpen (params : List Word) (s : State) : Host.Outcome State Fault Refusal :=
  .next (controlArrives (commandCode .loadOpen) params (takeCommand .loadOpen doLoadOpen params) s)

/-- LOAD_ABORT (R124). -/
def execLoadAbort (params : List Word) (s : State) : Host.Outcome State Fault Refusal :=
  .next (controlArrives (commandCode .loadAbort) params (takeCommand .loadAbort doLoadAbort params) s)

/-- COMMIT (R127). -/
def execCommit (params : List Word) (s : State) : Host.Outcome State Fault Refusal :=
  .next (controlArrives (commandCode .commit) params (takeCommand .commit doCommit params) s)

/-- GOVERN (R156). -/
def execGovern (params : List Word) (s : State) : Host.Outcome State Fault Refusal :=
  .next (controlArrives (commandCode .govern) params (takeCommand .govern doGovern params) s)

/-- STANDBY (R156). -/
def execStandby (params : List Word) (s : State) : Host.Outcome State Fault Refusal :=
  .next (controlArrives (commandCode .standby) params (takeCommand .standby doStandby params) s)

/-- CLEAR_LATCH (R107). -/
def execClearLatch (params : List Word) (s : State) : Host.Outcome State Fault Refusal :=
  .next (controlArrives (commandCode .clearLatch) params (takeCommand .clearLatch doClearLatch params) s)

/-- SNAPSHOT (R158). -/
def execSnapshot (params : List Word) (s : State) : Host.Outcome State Fault Refusal :=
  .next (controlArrives (commandCode .snapshot) params (takeCommand .snapshot doSnapshot params) s)

/-- READ_ENTRY (R159). -/
def execReadEntry (params : List Word) (s : State) : Host.Outcome State Fault Refusal :=
  .next (controlArrives (commandCode .readEntry) params (takeCommand .readEntry doReadEntry params) s)

/-- RUN_TESTS (R169). -/
def execRunTests (params : List Word) (s : State) : Host.Outcome State Fault Refusal :=
  .next (controlArrives (commandCode .runTests) params (takeCommand .runTests doRunTests params) s)

/-- SOFT_RESTART (R175). -/
def execSoftRestart (params : List Word) (s : State) : Host.Outcome State Fault Refusal :=
  .next (controlArrives (commandCode .softRestart) params (takeCommand .softRestart doSoftRestart params) s)

/-- HARD_RESET (R167), with the strap pins at these levels when the frame arrives. -/
def execHardReset (params : List Word) (nsel1 nsel0 : Bool) (s : State) : Host.Outcome State Fault Refusal :=
  .next (controlArrives (commandCode .hardReset) params (takeCommand .hardReset doHardReset params)
    { s with nsel1 := nsel1, nsel0 := nsel0 })

end Sys2Proof.Machine
end

