-- ==== Sys2Proof/Machine/Link.lean ====
section
/-! DEFINITION. The Link Interface's sorting of frames given as words (R137, R140, R145 to R147), the modem's frames that
wait on the link, the sending of the forward output, and the return lane's becoming free (R142). -/

namespace Sys2Proof.Machine

/-- The Command Unit takes a CONTROL frame by its code (R147, R152). -/
def takeControl (code : Word) (params : List Word) (s : State) : State :=
  match commandOf code with
  | none => takeUnknown code s
  | some .identify => takeCommand .identify doIdentify params s
  | some .readStatus => takeCommand .readStatus doReadStatus params s
  | some .setPath => takeCommand .setPath doSetPath params s
  | some .setModule => takeCommand .setModule doSetModule params s
  | some .setLimits => takeCommand .setLimits doSetLimits params s
  | some .setDevice => takeCommand .setDevice doSetDevice params s
  | some .loadOpen => takeCommand .loadOpen doLoadOpen params s
  | some .loadAbort => takeCommand .loadAbort doLoadAbort params s
  | some .commit => takeCommand .commit doCommit params s
  | some .govern => takeCommand .govern doGovern params s
  | some .standby => takeCommand .standby doStandby params s
  | some .clearLatch => takeCommand .clearLatch doClearLatch params s
  | some .snapshot => takeCommand .snapshot doSnapshot params s
  | some .readEntry => takeCommand .readEntry doReadEntry params s
  | some .runTests => takeCommand .runTests doRunTests params s
  | some .softRestart => takeCommand .softRestart doSoftRestart params s
  | some .hardReset => takeCommand .hardReset doHardReset params s

/-- A CONTROL or SEGMENT frame carries the part's node number (R137). -/
def frameMatches (f : Frame) (s : State) : Bool := frameNode f == s.nodeNumber.val

/-- A forward frame that passes its check, sorted by its kind (R137). -/
def sortForward (f : Frame) (s : State) : State :=
  if frameKind f = kindSample then
    match f.body with
    | position :: _ => takeSample (framePath f) f position.toNat s
    | [] => s
  else if frameKind f = kindBurstOpen then
    match f.body with
    | [declared, level] => takeBurstOpen (framePath f) (frameSpare f) declared level s
    | _ => s
  else if frameKind f = kindBurstClose then takeBurstClose (framePath f) (frameSpare f) s
  else if frameKind f = kindLevelStep then
    match f.body with
    | [level] => takeLevelStep (framePath f) (frameSpare f) level s
    | _ => s
  else if frameKind f = kindControl ∧ frameMatches f s then
    match f.body with
    | code :: params => takeControl code params s
    | [] => s
  else if frameKind f = kindSegment ∧ frameMatches f s then
    match f.body with
    | index :: words => takeSegment index words s
    | [] => s
  else send f s

/-- A frame that comes as words is taken by what it is. -/
def takeFrame (f : Frame) (s : State) : State := takeForward f (sortForward f) s

/-- The frames that waited on the link are taken, in order, while the forward output is empty (R137). -/
def takeWaiting : List Frame → State → State
  | [], s => { s with modemWaiting := [] }
  | f :: fs, s =>
    if s.forwardOutput = [] then takeWaiting fs (takeFrame f { s with modemWaiting := fs })
    else { s with modemWaiting := f :: fs }

/-- FORWARD_PASS_THROUGH: a frame of another node or of a kind the part does not read leaves unchanged (R137). -/
def execForwardPassThrough (f : Frame) (s : State) : Host.Outcome State Fault Refusal :=
  .next (modemPort f (sortForward f) s)

/-- FORWARD_FRAME_FAILING_ITS_CHECK: discarded, with FORWARD CHECK (R136). -/
def execForwardFrameFailingItsCheck (f : Frame) (s : State) : Host.Outcome State Fault Refusal :=
  .next (modemPort f (sortForward f) s)

/-- UNKNOWN_COMMAND: answered UNKNOWN (R152). -/
def execUnknownCommand (code : Word) (params : List Word) (s : State) : Host.Outcome State Fault Refusal :=
  .next (controlArrives code params (takeControl code params) s)

/-- FORWARD_OUTPUT_SENT: the front frame has left; once the output is empty the waiting arrivals are taken (R137). -/
def execForwardOutputSent (s : State) : Host.Outcome State Fault Refusal :=
  if s.deviceState = .offline then .next s
  else .next (takeWaiting s.modemWaiting { s with forwardOutput := s.forwardOutput.tail })

/-- A return frame that passes its check, sorted by its kind: the Module Unit reads TELEMETRY (R140, R146). -/
def sortReturn (f : Frame) (s : State) : State :=
  match f.body with
  | [moduleWord, presence, temperature, current, reflection] =>
    if frameKind f = kindTelemetry then readTelemetry moduleWord presence temperature current reflection s else s
  | _ => s

/-- RETURN_FRAME: any other return frame, or one that fails its check, enters the buffer unchanged (R140). -/
def execReturnFrame (f : Frame) (s : State) : Host.Outcome State Fault Refusal :=
  .next (radioPort f (sortReturn f) s)

/-! ### The merge arbiter -/

/-- MERGE_ARBITER_CHOICE: the lane has sent its frame and is free (R142). In OFFLINE nothing is sent (R133). -/
def execMergeArbiterChoice (s : State) : Host.Outcome State Fault Refusal :=
  if s.deviceState = .offline then .next s else .next (mergeChoice s)

end Sys2Proof.Machine
end

