-- ==== Sys2Proof/Machine/Time.lean ====
section
/-! DEFINITION. What the part does with no command waiting: first what is due, then 125 us pass (DESIGN CHOICE, log
entries 1 to 3; the timers are those of 00 "Timers"). -/

namespace Sys2Proof.Machine

/-- A running timer whose time has run out. -/
def isDue (t : Option Nat) : Bool := t == some 0

/-- The expiries that are due, in the order in which the model takes them: bin, hold and silence timers by module,
grace timers by path, the gap timer. -/
def dueExpiries (s : State) : List Instr :=
  (allModules.filter fun m => (moduleAt s m).ring.binTimer == 0).map Instr.binExpiry ++
  (allModules.filter fun m => isDue (moduleAt s m).throttle.holdTimer).map Instr.holdExpiry ++
  (allModules.filter fun m => isDue (moduleAt s m).context.silenceTimer).map Instr.silenceTimerExpiry ++
  (allPaths.filter fun p => isDue ((pathAt s p).burst.map (·.grace))).map Instr.graceExpiry ++
  (if isDue (s.load.map (·.gapTimer)) then [Instr.gapTimerExpiry] else [])

/-- The part's own next event, if one is due; none in OFFLINE, where no timer runs (R166). -/
def dueEvent (s : State) : Option Instr :=
  if s.deviceState = .offline then none else (dueExpiries s).head?

/-- One module's timers run for 125 us. -/
def tickModule (x : ModuleState) : ModuleState :=
  { x with
    context := { x.context with silenceTimer := x.context.silenceTimer.map (· - 1) },
    ring := { x.ring with binTimer := x.ring.binTimer - 1 },
    throttle := { x.throttle with holdTimer := x.throttle.holdTimer.map (· - 1) } }

/-- One path's grace timer runs for 125 us. -/
def tickPath (c : PathContext) : PathContext :=
  { c with burst := c.burst.map fun b => { b with grace := b.grace - 1 } }

/-- 125 us pass: every running timer counts down (00 "Timers"); in OFFLINE none runs (R166). -/
def passTime (s : State) : State :=
  if s.deviceState = .offline then s
  else
    let s1 := allModules.foldl (fun s m => setModuleAt m (tickModule (moduleAt s m)) s) s
    let s2 := allPaths.foldl (fun s p => setPathAt p (tickPath (pathAt s p)) s) s1
    { s2 with load := s2.load.map fun l => { l with gapTimer := l.gapTimer - 1 } }

end Sys2Proof.Machine
end

