-- ==== Sys2Proof/Machine/Dispatch.lean ====
section
/-! DEFINITION. One arm for each command: the command's meaning. -/

namespace Sys2Proof.Machine

/-- The effect of a command on everything but the queue. -/
def exec (i : Instr) (s : State) : Host.Outcome State Fault Refusal :=
  match i with
  | .sample path spare position samples => Sys2Proof.Machine.execSample path spare position samples s
  | .burstOpen path spare declared level => Sys2Proof.Machine.execBurstOpen path spare declared level s
  | .burstClose path spare => Sys2Proof.Machine.execBurstClose path spare s
  | .levelStep path spare level => Sys2Proof.Machine.execLevelStep path spare level s
  | .segment index words => Sys2Proof.Machine.execSegment index words s
  | .forwardPassThrough frame => Sys2Proof.Machine.execForwardPassThrough frame s
  | .forwardOutputSent => Sys2Proof.Machine.execForwardOutputSent s
  | .telemetry spare moduleWord presence temperature current reflection => Sys2Proof.Machine.execTelemetry spare moduleWord presence temperature current reflection s
  | .returnFrame frame => Sys2Proof.Machine.execReturnFrame frame s
  | .mergeArbiterChoice => Sys2Proof.Machine.execMergeArbiterChoice s
  | .binExpiry m => Sys2Proof.Machine.execBinExpiry m s
  | .holdExpiry m => Sys2Proof.Machine.execHoldExpiry m s
  | .silenceTimerExpiry m => Sys2Proof.Machine.execSilenceTimerExpiry m s
  | .graceExpiry p => Sys2Proof.Machine.execGraceExpiry p s
  | .gapTimerExpiry => Sys2Proof.Machine.execGapTimerExpiry s
  | .commitCompletion => Sys2Proof.Machine.execCommitCompletion s
  | .testRunCompletion tableStore ringStore loopback => Sys2Proof.Machine.execTestRunCompletion tableStore ringStore loopback s
  | .powerUpTestsCompletion tableStore ringStore => Sys2Proof.Machine.execPowerUpTestsCompletion tableStore ringStore s
  | .scrubCompletion m => Sys2Proof.Machine.execScrubCompletion m s
  | .ringStoreBinExamination m bin found => Sys2Proof.Machine.execRingStoreBinExamination m bin found s
  | .resetPinAssertion => Sys2Proof.Machine.execResetPinAssertion s
  | .resetPinRelease nsel1 nsel0 => Sys2Proof.Machine.execResetPinRelease nsel1 nsel0 s
  | .droopAssertingEdge => Sys2Proof.Machine.execDroopAssertingEdge s
  | .droopReleasingEdge => Sys2Proof.Machine.execDroopReleasingEdge s
  | .identify params => Sys2Proof.Machine.execIdentify params s
  | .readStatus params => Sys2Proof.Machine.execReadStatus params s
  | .setPath params => Sys2Proof.Machine.execSetPath params s
  | .setModule params => Sys2Proof.Machine.execSetModule params s
  | .setLimits params => Sys2Proof.Machine.execSetLimits params s
  | .setDevice params => Sys2Proof.Machine.execSetDevice params s
  | .loadOpen params => Sys2Proof.Machine.execLoadOpen params s
  | .loadAbort params => Sys2Proof.Machine.execLoadAbort params s
  | .commit params => Sys2Proof.Machine.execCommit params s
  | .govern params => Sys2Proof.Machine.execGovern params s
  | .standby params => Sys2Proof.Machine.execStandby params s
  | .clearLatch params => Sys2Proof.Machine.execClearLatch params s
  | .snapshot params => Sys2Proof.Machine.execSnapshot params s
  | .readEntry params => Sys2Proof.Machine.execReadEntry params s
  | .runTests params => Sys2Proof.Machine.execRunTests params s
  | .softRestart params => Sys2Proof.Machine.execSoftRestart params s
  | .hardReset params nsel1 nsel0 => Sys2Proof.Machine.execHardReset params nsel1 nsel0 s
  | .unknownCommand code params => Sys2Proof.Machine.execUnknownCommand code params s
  | .forwardFrameFailingItsCheck frame => Sys2Proof.Machine.execForwardFrameFailingItsCheck frame s

end Sys2Proof.Machine
end

