-- ==== Sys2Proof/Machine/Step.lean ====
section
/-! DEFINITION. One step: the command at the front of the queue, or, with no command waiting, the part's own next event
or 125 us of time (log entry 1). -/

namespace Sys2Proof.Machine

/-- With no command waiting: what is due, else time passes. -/
def idle (s : State) : Host.Outcome State Fault Refusal :=
  match dueEvent s with
  | some c => exec c s
  | none => .next (passTime s)

/-- One step of the part. -/
def step (s : State) : Host.Outcome State Fault Refusal :=
  match s.pending with
  | c :: rest => exec c { s with pending := rest }
  | [] => idle s

/-- The state with the command a word spells in front of its queue; no word spells one. -/
def State.withFetchWord (s : State) (nbits w : Nat) : State :=
  match decodeTableWord nbits w with
  | some c => { s with pending := c :: s.pending }
  | none => s

end Sys2Proof.Machine
end

