-- ==== Sys2Proof/Safety.lean ====
section
/-! DEFINITION. The laws the spec lays down for the part's state at every instant: what a safe run keeps. -/

namespace Sys2Proof.Machine

/-! ### The link (R137, R141, R142) -/

/-- The return buffer holds at most 4 frames, the run count is at most 4, a frame waits on the link only while the
forward output holds one, and the return lane is idle only while it has nothing to send. -/
abbrev LinkWithin (s : State) : Prop :=
  s.returnBuffer.length ≤ Config.returnBufferSize ∧ s.runCount ≤ Config.maxRunCount ∧
    (s.forwardOutput = [] → s.modemWaiting = []) ∧ (s.returnLane = none → s.returnBuffer = [] ∧ s.reports = [])

/-! ### The Report Queue (R161) -/

/-- The reports held that are not of the answer class. -/
def sharedReports (s : State) : Nat := (s.reports.filter fun r => reportClass r != .answer).length

/-- At most 16 reports, and at most 14 that are not of the answer class. -/
abbrev ReportsWithin (s : State) : Prop :=
  s.reports.length ≤ Config.reportQueueSize ∧ sharedReports s ≤ Config.sharedQueueSize

/-! ### Loads, long commands and device states (R116, R151, R127, R128) -/

def isCommit (l : LongCommand) : Bool :=
  match l with
  | .commit _ _ => true
  | .none => false
  | .runTests _ => false

def isTestRun (l : LongCommand) : Bool :=
  match l with
  | .runTests _ => true
  | .none => false
  | .commit _ _ => false

/-- A load is open exactly while the shadow is LOADING, a commit runs exactly while it is COMMITTING, a test run exactly
in TESTING; a commit runs in STANDBY or GOVERNING only, and a load is open there only, with no long command. -/
abbrev OperationsAgree (s : State) : Prop :=
  (s.load.isSome = true ↔ s.shadowState = .loading) ∧
  (isCommit s.longCommand = true ↔ s.shadowState = .committing) ∧
  (isTestRun s.longCommand = true ↔ s.deviceState = .testing) ∧
  (isCommit s.longCommand = true → s.deviceState = .standby ∨ s.deviceState = .governing) ∧
  (s.load.isSome = true → s.deviceState = .standby ∨ s.deviceState = .governing)

/-! ### Bursts and the admission accounts (R56, R91) -/

/-- What a burst record may hold (R56). -/
def burstLawful (b : BurstRecord) : Bool :=
  decide (1 ≤ b.declared ∧ b.declared ≤ 64 ∧ b.next ≤ b.declared ∧ b.forwarded ≤ b.next ∧ b.requested ≤ 127 ∧
    b.weight ≤ 65535) &&
  match b.granted with
  | .off => b.weight == 0 && b.backoff == none && b.next == 0
  | .code g => decide (g ≤ b.requested) && b.backoff == some (b.requested - g)

/-- Every burst in flight has a lawful record. -/
abbrev BurstsLawful (s : State) : Prop := ∀ p : PathId, (pathAt s p).burst.all burstLawful = true

/-- The weight a path's burst holds on module `m`. -/
def weightHeld (c : PathContext) (m : ModuleId) : Nat :=
  if c.moduleId = m then
    match c.burst with
    | some b => b.weight
    | none => 0
  else 0

/-- The frames a path's granted burst has still to send on module `m`. -/
def framesToCome (c : PathContext) (m : ModuleId) : Nat :=
  if c.moduleId = m then
    match c.burst with
    | some b =>
      match b.granted with
      | .code _ => b.declared - b.next
      | .off => 0
    | none => 0
  else 0

/-- Each account is the sum over the module's bursts in flight (R91). -/
abbrev AccountsExact (s : State) : Prop :=
  ∀ m : ModuleId,
    (moduleAt s m).accounts.inFlight = (allPaths.map fun p => weightHeld (pathAt s p) m).sum ∧
    (moduleAt s m).accounts.committed = (allPaths.map fun p => framesToCome (pathAt s p) m).sum

/-! ### The energy window (R37, R39, R47, R48) -/

/-- A bin's limits; its peak level is present exactly when it holds frames (R37). -/
def binLawful (b : Bin) : Bool :=
  decide (b.energy ≤ Config.maxBinEnergy ∧ b.frames ≤ Config.maxBinFrames) && (b.peak.isNone == (b.frames == 0))

/-- The sums are the bins' sums, and every bin is within its limits (R37, R39). -/
abbrev WindowExact (s : State) : Prop :=
  ∀ m : ModuleId,
    let r := (moduleAt s m).ring
    r.windowEnergy = (r.bins.toList.map (·.energy)).sum ∧ r.windowFrames = (r.bins.toList.map (·.frames)).sum ∧
      r.bins.toList.all binLawful = true

/-- The energy grade is the count of thresholds reached; 0 without a profile (R47, R48). -/
abbrev EnergyGraded (s : State) : Prop :=
  ∀ m : ModuleId, (moduleAt s m).ring.energyGrade =
    match profileOf s m with
    | some p => energyGradeOf p (moduleAt s m).ring.windowEnergy
    | none => 0

/-! ### Telemetry and thermal grade (R19, R23, R26) -/

/-- The filtered temperature is absent exactly in NONE and lies within -160 to +600; the thermal grade is at most 7, and
is 7 in NONE, in STALE and without a profile. -/
def moduleGraded (x : ModuleState) : Bool :=
  let c := x.context
  (c.filtered.isNone == (c.telemetry == .none)) && c.filtered.all (fun f => decide (-160 ≤ f ∧ f ≤ 600)) &&
    decide (c.thermalGrade ≤ 7) && (c.thermalGrade == 7 || (c.telemetry == .fresh && x.active.isSome))

abbrev ThermallyGraded (s : State) : Prop := ∀ m : ModuleId, moduleGraded (moduleAt s m) = true

/-! ### The throttle (R97) -/

/-- The law of R97 for one module. -/
def throttleLawful (x : ModuleState) : Bool :=
  let t := x.throttle
  decide (t.clampBackoff ≤ 127) &&
  match x.active with
  | none => t.state == .unprofiled && t.clampBackoff == 0 && t.strikes == 0 && t.holdTimer == none
  | some a =>
    match t.state with
    | .unprofiled => false
    | .normal => t.clampBackoff == 0 && t.strikes == 0 && t.holdTimer == none
    | .clamped => t.holdTimer.isSome && decide (t.strikes < strikeLimit a.words)
    | .releasing => t.holdTimer == none && decide (t.strikes < strikeLimit a.words)
    | .latched => t.holdTimer == none && decide (t.strikes ≤ strikeLimit a.words)

abbrev ThrottlesLawful (s : State) : Prop := ∀ m : ModuleId, throttleLawful (moduleAt s m) = true

/-! ### Governing (R17, R156) -/

/-- While the device is GOVERNING, every module that holds an enabled path has an active profile. -/
abbrev GoverningProfiled (s : State) : Prop :=
  s.deviceState = .governing → ∀ p : PathId, (pathAt s p).enabled = true →
    (moduleAt s (pathAt s p).moduleId).active.isSome = true

/-! ### Scrubs (R127, R176) -/

/-- No scrub is in progress in LOCKDOWN, SELFTEST or OFFLINE, on a module without a profile, or on a module whose commit
is in progress. -/
abbrev ScrubsLawful (s : State) : Prop :=
  ∀ m : ModuleId, (moduleAt s m).scrub = true →
    (moduleAt s m).active.isSome = true ∧ committing s m = false ∧
      (s.deviceState = .standby ∨ s.deviceState = .governing ∨ s.deviceState = .testing)

/-- Every law at once. -/
structure Lawful (s : State) : Prop where
  link : LinkWithin s
  reports : ReportsWithin s
  operations : OperationsAgree s
  bursts : BurstsLawful s
  accounts : AccountsExact s
  window : WindowExact s
  energy : EnergyGraded s
  thermal : ThermallyGraded s
  throttles : ThrottlesLawful s
  governing : GoverningProfiled s
  scrubs : ScrubsLawful s

end Sys2Proof.Machine
end

