-- ==== Sys2Proof/WellFormed.lean ====
section
/-! DEFINITION. Which terms of `Instr` are commands of their row: a frame has a body that its length word can count, a
length that R146 allows its kind, and a check word that holds or fails as the row says. Whether a CONTROL or SEGMENT
frame carries the part's node number depends on the state, and is not asked here. -/

namespace Sys2Proof

open Machine

/-- A body that one length word counts (R134). -/
def Frame.bodyFits (f : Frame) : Bool := decide (f.body.length < 65536)

/-- A CONTROL frame carries at most 12 parameter words (R146). -/
def paramsFit (params : List Word) : Bool := decide (params.length ≤ 12)

/-- A kind that belongs to a path (R146): such a frame is never passed through unread. -/
def pathKind (kind : Nat) : Bool :=
  kind == kindSample || kind == kindBurstOpen || kind == kindBurstClose || kind == kindLevelStep

/-- The well-formedness check. -/
def Instr.wf : Instr → Bool
  | .sample _ _ _ samples => decide (samples.length < 65535)
  | .burstOpen .. => true
  | .burstClose .. => true
  | .levelStep .. => true
  | .segment _ words => words.length == 32
  | .forwardPassThrough f => f.bodyFits && passesForward f && !pathKind (frameKind f)
  | .forwardOutputSent => true
  | .telemetry .. => true
  | .returnFrame f => f.bodyFits && !(passesReturn f && frameKind f == kindTelemetry)
  | .mergeArbiterChoice => true
  | .binExpiry _ => true
  | .holdExpiry _ => true
  | .silenceTimerExpiry _ => true
  | .graceExpiry _ => true
  | .gapTimerExpiry => true
  | .commitCompletion => true
  | .testRunCompletion .. => true
  | .powerUpTestsCompletion .. => true
  | .scrubCompletion _ => true
  | .ringStoreBinExamination .. => true
  | .resetPinAssertion => true
  | .resetPinRelease .. => true
  | .droopAssertingEdge => true
  | .droopReleasingEdge => true
  | .identify params => paramsFit params
  | .readStatus params => paramsFit params
  | .setPath params => paramsFit params
  | .setModule params => paramsFit params
  | .setLimits params => paramsFit params
  | .setDevice params => paramsFit params
  | .loadOpen params => paramsFit params
  | .loadAbort params => paramsFit params
  | .commit params => paramsFit params
  | .govern params => paramsFit params
  | .standby params => paramsFit params
  | .clearLatch params => paramsFit params
  | .snapshot params => paramsFit params
  | .readEntry params => paramsFit params
  | .runTests params => paramsFit params
  | .softRestart params => paramsFit params
  | .hardReset params _ _ => paramsFit params
  | .unknownCommand code params => (commandOf code).isNone && paramsFit params
  | .forwardFrameFailingItsCheck f => f.bodyFits && !passesForward f

end Sys2Proof
end

