-- ==== Sys2Proof/Certificates/Slice0/Obligations.lean ====
section
/-! DEFINITION. The statements about the part, from the numbered rules of spec/. Every statement about a command says
what state the command answers with, so it says both what changes and what stays. -/

namespace Sys2Proof.Claim

open Sys2Proof.Machine

/-! ### Words the statements share -/

/-- The modem port takes an arrival (R133, R137): not OFFLINE, the forward output empty, no frame waiting ahead. -/
abbrev PortOpen (s : State) : Prop := s.deviceState ≠ .offline ∧ s.forwardOutput = [] ∧ s.modemWaiting = []

/-- A command frame is not discarded for a full queue (R152, test 1). -/
abbrev Heard (s : State) : Prop := PortOpen s ∧ s.reports.length < 16

/-- Every command is executed (R152, last row): STANDBY or GOVERNING with no long command. -/
abbrev Executing (s : State) : Prop :=
  Heard s ∧ (s.deviceState = .standby ∨ s.deviceState = .governing) ∧ s.longCommand = .none

/-- The latched device status with bit `n` of R149 added. -/
def latch (n : Nat) (s : State) : State := { s with status := s.status ||| (1#5 <<< n) }

/-! ### The codes of R149 and R153, and the words of a REPORT frame (R143, R148) -/

def wordOf (n : Nat) : Word := BitVec.ofNat 16 n

/-- A value of two words, most significant first (R145). -/
def twoOf (n : Nat) : List Word := [wordOf (n / 65536), wordOf n]

/-- An absent value is 0xFFFF (R148, R159). -/
def orAbsent (n : Option Nat) : Word :=
  match n with
  | some k => wordOf k
  | none => 0xFFFF

def flagCode (b : Bool) : Word := if b then 1 else 0

def levelCode : Level → Word
  | .code g => wordOf g
  | .off => 0x00FF

def throttleCode : ThrottleState → Word
  | .unprofiled => 0
  | .normal => 1
  | .clamped => 2
  | .releasing => 3
  | .latched => 4

/-- R149 codes the five states in which a report is made; 0 stands for OFFLINE, in which none is (log entry 20). -/
def deviceCode : DeviceState → Word
  | .offline => 0
  | .selftest => 1
  | .standby => 2
  | .governing => 3
  | .testing => 4
  | .lockdown => 5

def outcomeCode : AnswerOutcome → Word
  | .done => 0
  | .busy => 1
  | .range => 2
  | .state => 3
  | .unknown => 4
  | .failed => 5
  | .abandoned => 6

def loadCode : LoadOutcome → Word
  | .complete => 0
  | .order => 1
  | .timeout => 2
  | .aborted => 3

def causeCode : NoticeCause → Word
  | .criterion .overcurrent => 1
  | .criterion .reflection => 2
  | .criterion .slope => 3
  | .criterion .droop => 4
  | .criterion .silence => 5
  | .holdExpiry => 6
  | .release => 7
  | .clearLatch => 8
  | .commit => 9

/-- The criterion's bit in a criteria set or mask. -/
def criterionCode : Criterion → Nat
  | .overcurrent => 0
  | .reflection => 1
  | .slope => 2
  | .droop => 3
  | .silence => 4

/-- High byte the verdict, low byte the reason. -/
def verdictCode : Verdict → Word
  | .pass => 0x0100
  | .trim .headroom => 0x0206
  | .trim .clamp => 0x0207
  | .trim .ceiling => 0x0208
  | .trim .preempt => 0x0209
  | .blank .lockdown => 0x0301
  | .blank .testing => 0x0302
  | .blank .pathOff => 0x0303
  | .blank .notAdmitted => 0x0304
  | .blank .duty => 0x0305
  | .blank .headroom => 0x0306

def testCode : Option SelfTest → Word
  | none => 0
  | some .tableStore => 1
  | some .ringStore => 2
  | some .loopback => 3
  | some .profileCheck => 4

def reasonCode : Option TestReason → Word
  | none => 0xFFFF
  | some (.store .pattern) => 1
  | some (.store .address) => 2
  | some (.link .noReturn) => 3
  | some (.link .dataMismatch) => 4
  | some (.link .checkError) => 5
  | some (.profileOf m) => wordOf m.val

/-- The code of the lockdown cause, and the lockdown module (R165). -/
def lockdownCodes : LockdownCause → List Word
  | .none => [0, 0xFFFF]
  | .test => [1, 0xFFFF]
  | .scrub m => [2, wordOf m.val]

/-- The name of a failed commit condition (R153). -/
def failureCode : CommitFailure → Word
  | .checkMismatch => 1
  | .range => 2
  | .thermalOrder => 3
  | .energyOrder => 4
  | .weightOrder => 5
  | .backoffOrder => 6
  | .allowanceOrder => 7
  | .admitOrder => 8

/-- The body of a REPORT frame: the report kind, with the gap flag in bit 15, then the report's fields (R143, R148). -/
def reportBody (gap : Bool) : Report → List Word
  | .answer code outcome detail => (if gap then 0x8001 else 1) :: code :: outcomeCode outcome :: detail
  | .loadResult outcome start cnt taken received =>
    [if gap then 0x8002 else 2, loadCode outcome, wordOf start, wordOf cnt, wordOf taken, orAbsent received]
  | .deviceState state results cause =>
    [if gap then 0x8003 else 3, deviceCode state, results.failed.setWidth 16, testCode results.last,
      reasonCode results.reason] ++ lockdownCodes cause
  | .throttleNotice m old new cause strikes back =>
    [if gap then 0x8004 else 4, wordOf m.val, throttleCode old, throttleCode new, causeCode cause, wordOf strikes,
      wordOf back]
  | .burstVerdict p m verdict requested granted declared thermal energy inFlight preempted =>
    [if gap then 0x8005 else 5, wordOf p.val, wordOf m.val, verdictCode verdict, wordOf requested, levelCode granted,
      wordOf declared, wordOf thermal, wordOf energy, wordOf (inFlight / 65536), wordOf inFlight, wordOf preempted]

/-- The REPORT frame of a report: kind 13 and the part's node number in the header (R134, R143). -/
def reportSent (node : Fin 4) (gap : Bool) (r : Report) : Frame :=
  sealFrame (wordOf (13 * 4096 + node.val)) (reportBody gap r)

/-! ### The merge arbiter (R142) -/

/-- The part after a choice of the arbiter: the oldest radio frame, or the oldest report where the buffer is empty or
four radio frames have gone ahead of a waiting report; a report takes the gap flag with it (R142, R162). -/
def chosen (s : State) : State :=
  match s.returnBuffer, s.reports with
  | [], [] => { s with returnLane := none }
  | f :: fs, [] => { s with returnBuffer := fs, returnLane := some f, runCount := 0 }
  | [], r :: rs => { s with
      reports := rs, reportGap := false, runCount := 0, returnLane := some (reportSent s.nodeNumber s.reportGap r) }
  | f :: fs, r :: rs =>
    if s.runCount < 4 then { s with returnBuffer := fs, returnLane := some f, runCount := s.runCount + 1 }
    else { s with
      reports := rs, reportGap := false, runCount := 0, returnLane := some (reportSent s.nodeNumber s.reportGap r) }

/-- After an entry into the buffer or the queue: on an idle lane the arbiter chooses at once (R142). -/
def settled (s : State) : State := if s.returnLane = none then chosen s else s

/-! ### Answers, bursts and modules -/

/-- One ANSWER report is offered to the queue. -/
def answered (code : Word) (outcome : AnswerOutcome) (detail : List Word) (s : State) : State :=
  offer (.answer code outcome detail) s

/-- The weight of a level on a module: 0 without a profile (R16, R17). -/
def weightFor (x : ModuleState) (g : Nat) : Nat :=
  match x.active with
  | some a => weight a.words g
  | none => 0

/-- What is left of a module's accounts when a burst leaves them (R66, step 2; R70, step 2). -/
def shareLeft (b : BurstRecord) (a : Accounts) : Accounts :=
  match b.granted with
  | .off => a
  | .code _ => ⟨a.inFlight - b.weight, a.committed - (b.declared - b.next)⟩

/-- The part after the truncation of path `p`'s burst `b` (R70). -/
def truncated (p : PathId) (b : BurstRecord) (s : State) : State :=
  let c := pathAt s p
  let x := moduleAt s c.moduleId
  setPathAt p { c with
    burst := none, counters := { c.counters with truncated := growCounter s.counterMode c.counters.truncated } }
  (setModuleAt c.moduleId { x with accounts := shareLeft b x.accounts }
    { s with forwardOutput := s.forwardOutput ++ [burstCloseFrame p 0] })

/-- A path's context after the part lowers its burst `b` to level `n` on a module `x` (R65). -/
def loweredPath (mode : CounterMode) (x : ModuleState) (c : PathContext) (b : BurstRecord) (n : Nat) : PathContext :=
  { c with
    burst := some { b with
      granted := .code n, weight := weightFor x n, backoff := some (b.requested - n), lowered := true },
    counters := if b.lowered then c.counters
      else { c.counters with lowered := growCounter mode c.counters.lowered } }

/-- The part after the lowering of path `p`'s burst `b` to level `n` (R65). -/
def lowered (p : PathId) (b : BurstRecord) (n : Nat) (s : State) : State :=
  let c := pathAt s p
  let x := moduleAt s c.moduleId
  setPathAt p (loweredPath s.counterMode x c b n)
  (setModuleAt c.moduleId
    { x with accounts := { x.accounts with inFlight := x.accounts.inFlight + weightFor x n - b.weight } }
    { s with forwardOutput := s.forwardOutput ++ [levelStepFrame p 0 (BitVec.ofNat 16 n)] })

/-- The declared length as the part takes it (R57). -/
def lengthTaken (declared : Word) : Nat :=
  if declared.toNat = 0 then 1 else if 64 < declared.toNat then 64 else declared.toNat

/-- The path's counters after an admission with this verdict (R58, step 4). -/
def verdictCounted (mode : CounterMode) (v : Verdict) (k : Counters) : Counters :=
  match v with
  | .pass => { k with passed := growCounter mode k.passed }
  | .trim _ => { k with trimmed := growCounter mode k.trimmed }
  | .blank _ => { k with blanked := growCounter mode k.blanked }

/-- The part after a burst opens on the IDLE path `p` with verdict `v`, granted level `g` and weight `w`, `n` bursts
pre-empted before it (R56, R58, R68, R79, R90, R95). -/
def opened (p : PathId) (spare : BitVec 9) (declared : Word) (r : Nat) (v : Verdict) (g : Level) (w n : Nat)
    (s : State) : State :=
  let c := pathAt s p
  let x := moduleAt s c.moduleId
  let length := lengthTaken declared
  let a : Accounts := match g with
    | .off => x.accounts
    | .code _ => ⟨x.accounts.inFlight + w, x.accounts.committed + length⟩
  let record : BurstRecord :=
    { declared := length, requested := r, granted := g, weight := w,
      backoff := match g with
        | .off => none
        | .code k => some (r - k),
      verdict := v, next := 0, forwarded := 0, lowered := false, grace := length + s.graceCode }
  let report : Report := .burstVerdict p c.moduleId v r g length x.context.thermalGrade x.ring.energyGrade a.inFlight n
  let base := setPathAt p { c with burst := some record, counters := verdictCounted s.counterMode v c.counters }
    (setModuleAt c.moduleId { x with accounts := a }
      { s with forwardOutput := s.forwardOutput ++ [burstOpenFrame p spare declared (levelCode g)] })
  if c.reporting then offer report base else base

/-- The clamp that admission applies to a module: its clamp backoff in CLAMPED, RELEASING or LATCHED (R97). -/
def clampOf (t : ThrottleContext) : Option Nat :=
  if t.state = .clamped ∨ t.state = .releasing ∨ t.state = .latched then some t.clampBackoff else none

/-- A level fits the headroom beside a weight in flight (R85, R86). -/
abbrev Fits (p : Profile) (headroom inFlight g : Nat) : Prop := inFlight + weight p g ≤ headroom

/-- The device is GOVERNING, path `p` is enabled and IDLE, and its module has the active profile `a`. -/
abbrev Governed (p : PathId) (a : ActiveProfile) (s : State) : Prop :=
  PortOpen s ∧ s.deviceState = .governing ∧ (pathAt s p).enabled = true ∧ (pathAt s p).burst = none ∧
    (moduleAt s (pathAt s p).moduleId).active = some a

/-- The record in force of path `p`'s module under profile `a` (R15). -/
def recordOf (p : PathId) (a : ActiveProfile) (s : State) : Record :=
  let x := moduleAt s (pathAt s p).moduleId
  readRecord a.words x.context.thermalGrade x.ring.energyGrade

/-- The class and duty tests of R82 and R83 pass for a burst of this length. -/
def PassesClassAndDuty (p : PathId) (a : ActiveProfile) (length : Nat) (s : State) : Prop :=
  let x := moduleAt s (pathAt s p).moduleId
  admits (recordOf p a s).classes (pathAt s p).trafficClass = true ∧
    ∀ k, (recordOf p a s).allowance = some k → x.ring.windowFrames + x.accounts.committed + length ≤ 16 * k

/-- The effective backoff of R84. -/
def backoffFor (p : PathId) (a : ActiveProfile) (s : State) : Nat :=
  match clampOf (moduleAt s (pathAt s p).moduleId).throttle with
  | some b => max (recordOf p a s).backoff b
  | none => (recordOf p a s).backoff

/-- The bursts that R87 names: granted above level 0, of class DATA, on module `m`, in path order. -/
def dataAbove0 (s : State) (m : ModuleId) : List PathId :=
  allPaths.filter fun q =>
    (pathAt s q).moduleId == m && (pathAt s q).trafficClass == .data &&
      match (pathAt s q).burst with
      | some b =>
        match b.granted with
        | .code g => decide (0 < g)
        | .off => false
      | none => false

/-- Each of these paths' bursts lowered to level 0, in order (R88). -/
def loweredTo0 (qs : List PathId) (s : State) : State :=
  qs.foldl (fun s q =>
    match (pathAt s q).burst with
    | some b => lowered q b 0 s
    | none => s) s

/-- A frame enters the return holding buffer, with the arbiter's choice where the lane is idle, or is lost to RETURN
OVERRUN (R141, R142). -/
def buffered (f : Frame) (s : State) : State :=
  if s.returnBuffer.length < 4 then settled { s with returnBuffer := s.returnBuffer ++ [f] } else latch 2 s

/-- The part after the current and the reflection of a TELEMETRY frame for module `m`, each taken where its presence
flag is set: the current is stored and fires OVERCURRENT above its limit; then the reflection, held at 255, is stored and
fires REFLECTION above its limit (R21, R32 to R34). -/
def otherReadings (m : ModuleId) (presence current reflection : Word) (s : State) : State :=
  let c := (moduleAt s m).context
  let s1 := setContext m { c with lastCurrent := some current.toNat } s
  let s2 := if presence.getLsbD 1 = false then s
    else if c.currentLimit < current.toNat then fire m .overcurrent s1 else s1
  let d := (moduleAt s2 m).context
  let v := if 255 < reflection.toNat then 255 else reflection.toNat
  let s3 := setContext m { d with lastReflection := some v } s2
  if presence.getLsbD 2 = false then s2 else if d.reflectionLimit < v then fire m .reflection s3 else s3

/-- `g` is the highest grade whose threshold is at or below `f`, or 0 (R27, rising step). -/
def HighestReached (p : Profile) (f : Int) (g : Nat) : Prop :=
  g ≤ 7 ∧ (g = 0 ∨ thermalThreshold p g ≤ f) ∧ ∀ k, g < k → k ≤ 7 → f < thermalThreshold p k

/-- Grade `g` is where the falling step from `from_` stops (R27). -/
def FallsTo (p : Profile) (f : Int) (from_ g : Nat) : Prop :=
  g ≤ from_ ∧ (∀ k, g < k → k ≤ from_ → f < thermalThreshold p k - hysteresis p) ∧
    (g = 0 ∨ thermalThreshold p g - hysteresis p ≤ f)

/-- Grade `g` follows from grade `from_` at filtered temperature `f` (R27). -/
def Regraded (p : Profile) (f : Int) (from_ g : Nat) : Prop :=
  ∃ h, HighestReached p f h ∧ ((from_ < h ∧ g = h) ∨ (h ≤ from_ ∧ FallsTo p f from_ g))

/-- The silence timer as a start with this code leaves it, in units of 125 us (R30). -/
def silenceStart (code : Nat) : Option Nat := if code = 0 then none else some (512 * code)

/-- The energy grade by its definition, kept where there is no profile (R47, R48). -/
def gradeFor (x : ModuleState) (energy : Nat) : Nat :=
  match x.active with
  | some a => ((List.range 7).filter fun i => energyThreshold a.words (i + 1) ≤ energy).length
  | none => x.ring.energyGrade

/-- A CONTROL row other than HARD RESET and UNKNOWN COMMAND: its code, the number of parameter words it takes, and those
it carries (R147, section 9.2). -/
def controlOf : Instr → Option (Word × Nat × List Word)
  | .identify ps => some (0x0001, 0, ps)
  | .readStatus ps => some (0x0002, 1, ps)
  | .setPath ps => some (0x0003, 5, ps)
  | .setModule ps => some (0x0004, 5, ps)
  | .setLimits ps => some (0x0005, 4, ps)
  | .setDevice ps => some (0x0006, 3, ps)
  | .loadOpen ps => some (0x0007, 3, ps)
  | .loadAbort ps => some (0x0008, 0, ps)
  | .commit ps => some (0x0009, 3, ps)
  | .govern ps => some (0x000A, 0, ps)
  | .standby ps => some (0x000B, 0, ps)
  | .clearLatch ps => some (0x000C, 1, ps)
  | .snapshot ps => some (0x000D, 1, ps)
  | .readEntry ps => some (0x000E, 3, ps)
  | .runTests ps => some (0x000F, 1, ps)
  | .softRestart ps => some (0x0010, 0, ps)
  | _ => none

/-- A path context as READ ENTRY kind 4 gives it (R159). -/
def pathEntry (c : PathContext) : List Word :=
  [flagCode c.enabled, wordOf c.moduleId.val,
    match c.trafficClass with
    | .voice => 0
    | .signalling => 1
    | .data => 2,
    flagCode c.reporting] ++
  match c.burst with
  | none => 0 :: List.replicate 10 0xFFFF
  | some b => [1, wordOf b.declared, wordOf b.requested, levelCode b.granted, wordOf b.weight, orAbsent b.backoff,
      verdictCode b.verdict, wordOf b.next, wordOf b.forwarded, flagCode b.lowered, wordOf b.grace]

/-- A remaining time, held in units of 125 us, in ms rounded up; 0xFFFF when stopped (R159). -/
def msLeft (t : Option Nat) : Word :=
  match t with
  | some u => wordOf ((u + 7) / 8)
  | none => 0xFFFF

/-- A module context as READ ENTRY kind 5 gives it; a field its presence word marks absent is 0 (R159). -/
def moduleEntry (x : ModuleState) : List Word :=
  let c := x.context
  let t := x.throttle
  [match c.telemetry with
    | .none => 0
    | .fresh => 1
    | .stale => 2,
    wordOf ((if c.filtered.isSome then 1 else 0) + (if c.lastCurrent.isSome then 2 else 0) +
      (if c.lastReflection.isSome then 4 else 0)),
    match c.filtered with
    | some f => BitVec.ofInt 16 f
    | none => 0,
    wordOf c.thermalGrade, wordOf (c.lastCurrent.getD 0), wordOf (c.lastReflection.getD 0), msLeft c.silenceTimer,
    wordOf c.binPeriodCode, wordOf c.filterShift, wordOf c.silenceCode, c.mask.setWidth 16, wordOf c.currentLimit,
    wordOf c.reflectionLimit, wordOf c.slopeLimit, throttleCode t.state, wordOf t.clampBackoff, wordOf t.strikes,
    t.latched.setWidth 16, msLeft t.holdTimer, wordOf (x.accounts.inFlight / 65536), wordOf x.accounts.inFlight,
    wordOf x.accounts.committed]

/-- The shadow's state as READ ENTRY kind 2 gives it (R159). -/
def shadowCode : ShadowState → Word
  | .empty => 0
  | .loading => 1
  | .ready => 2
  | .incomplete => 3
  | .committing => 4

/-- The part after the release step of a ring advance of `m` (R104): a RELEASING module's clamp backoff falls by the
release step of its profile, and at 0 the module becomes NORMAL with a notice; another module is left as it is. -/
def releaseStepped (m : ModuleId) (s : State) : State :=
  let x := moduleAt s m
  let t := x.throttle
  match x.active with
  | none => s
  | some a =>
    let back := t.clampBackoff - releaseStep a.words
    if t.state ≠ .releasing then s
    else if back = 0 then offer (.throttleNotice m .releasing .normal .release 0 0)
      (setThrottle m { t with state := .normal, clampBackoff := 0, strikes := 0 } s)
    else setThrottle m { t with clampBackoff := back } s

/-- Module `m` with the shadow's words in force, its thermal grade `g` and its energy grade evaluated (R130, 1 to 3). -/
def profileInForce (m : ModuleId) (check : CheckValue) (g : Nat) (s : State) : State :=
  let x := moduleAt s m
  setModuleAt m { x with
    active := some ⟨s.shadow, check⟩, context := { x.context with thermalGrade := g },
    ring := { x.ring with energyGrade :=
      ((List.range 7).filter fun i => energyThreshold s.shadow (i + 1) ≤ x.ring.windowEnergy).length } } s

/-- `g` is module `m`'s thermal grade at a commit's completion: from 0 in FRESH, else 7 (R28, R130). -/
def CommittedGrade (m : ModuleId) (g : Nat) (s : State) : Prop :=
  let c := (moduleAt s m).context
  (c.telemetry ≠ .fresh → g = 7) ∧
    ∀ f, c.telemetry = .fresh → c.filtered = some f → HighestReached s.shadow f g

/-- The part at the end of a commit of `m` that passed: the shadow READY, no long command, and DONE answered (R130, 5
and 6). -/
def commitDone (m : ModuleId) (s : State) : State :=
  answered 0x0009 .done [wordOf m.val, 0] { s with shadowState := .ready, longCommand := .none }

/-- The segments an open load has written, else 0 (R124). -/
def takenSoFar (s : State) : Word :=
  match s.load with
  | some l => BitVec.ofNat 16 l.taken
  | none => 0

/-- The part entering LOCKDOWN (R177): what it abandons, and what it writes. -/
def lockedDown (cause : LockdownCause) (s : State) : State :=
  offer (.deviceState .lockdown s.testResults cause)
    { s with
      modules := s.modules.map fun x => { x with scrub := false },
      shadow := match s.longCommand with
        | .runTests tests => if tests.getLsbD 0 then .zero else s.shadow
        | _ => s.shadow,
      shadowState := if s.load.isSome then .incomplete else
        match s.longCommand with
        | .commit _ _ => .ready
        | .runTests tests => if tests.getLsbD 0 then .empty else s.shadowState
        | .none => s.shadowState,
      ringFault := match s.longCommand with
        | .runTests _ => none
        | _ => s.ringFault,
      load := none, longCommand := .none, lockdownCause := cause, deviceState := .lockdown }

end Sys2Proof.Claim

open Sys2Proof Sys2Proof.Machine Sys2Proof.Claim

/-! ### The queue and the passage of time -/

/-- With a command at the front of the queue, a step is that command's effect on the part with the queue's rest. -/
def Obligations.AStepTakesTheFrontCommand : Prop :=
  ∀ (c : Instr) (rest : List Instr) (s : State), s.pending = c :: rest → step s = exec c { s with pending := rest }

/-- Every command, in every state, answers a next state, and leaves the waiting commands alone. (The queue is the
model's, log entry 19; that an event that cannot take place answers the same state is its reading, log entry 13; and it covers
states that no run reaches, log entry 17.) -/
def Obligations.EveryCommandCompletesAndLeavesTheQueue : Prop :=
  ∀ (c : Instr) (s : State), ∃ t, exec c s = .next t ∧ t.pending = s.pending

/-- With no command waiting, what is due comes first: an expired timer, bin, hold, silence, grace, gap, the lowest module
or path first. With nothing due a step lets 125 us pass: every running timer counts down by one unit and nothing else
changes. All of it is the model's choice (log entries 1 and 3). -/
def Obligations.AnEmptyQueueLetsTheDueEventOrTimePass : Prop :=
  ∀ s : State, s.pending = [] → s.deviceState ≠ .offline →
    let bin := fun m => (moduleAt s m).ring.binTimer = 0
    let hold := fun m => (moduleAt s m).throttle.holdTimer = some 0
    let silence := fun m => (moduleAt s m).context.silenceTimer = some 0
    let grace := fun p => (pathAt s p).burst.map (·.grace) = some 0
    let gap := s.load.map (·.gapTimer) = some 0
    (∀ m, bin m → (∀ n < m, ¬ bin n) → step s = exec (.binExpiry m) s) ∧
    ((∀ m, ¬ bin m) →
      (∀ m, hold m → (∀ n < m, ¬ hold n) → step s = exec (.holdExpiry m) s) ∧
      ((∀ m, ¬ hold m) →
        (∀ m, silence m → (∀ n < m, ¬ silence n) → step s = exec (.silenceTimerExpiry m) s) ∧
        ((∀ m, ¬ silence m) →
          (∀ p, grace p → (∀ q < p, ¬ grace q) → step s = exec (.graceExpiry p) s) ∧
          ((∀ p, ¬ grace p) →
            (gap → step s = exec .gapTimerExpiry s) ∧
            (¬ gap → ∃ t, step s = .next t ∧
              t = { s with modules := t.modules, paths := t.paths, load := t.load } ∧
              (∀ m, moduleAt t m = { moduleAt s m with
                context := { (moduleAt s m).context with
                  silenceTimer := (moduleAt s m).context.silenceTimer.map fun n => n - 1 },
                ring := { (moduleAt s m).ring with binTimer := (moduleAt s m).ring.binTimer - 1 },
                throttle := { (moduleAt s m).throttle with
                  holdTimer := (moduleAt s m).throttle.holdTimer.map fun n => n - 1 } }) ∧
              (∀ p, pathAt t p = { pathAt s p with
                burst := (pathAt s p).burst.map fun b => { b with grace := b.grace - 1 } }) ∧
              t.load = s.load.map fun l => { l with gapTimer := l.gapTimer - 1 })))))

/-! ### Resets -/

/-- The values that the spec gives for the release of the reset pin, block by block. -/
def Obligations.ResetLeavesTheStatedValues : Prop :=
  let s := State.reset
  s.deviceState = .selftest ∧ s.testResults = ⟨0, none, none⟩ ∧ s.lockdownCause = .none ∧
  s.forwardOutput = [] ∧ s.returnBuffer = [] ∧ s.runCount = 0 ∧ s.status = 0 ∧
  (∀ p : PathId, pathAt s p =
    { enabled := true, moduleId := ⟨p.val / 2, by omega⟩, trafficClass := .data, reporting := false, burst := none,
      counters := ⟨0, 0, 0, 0, 0, 0, 0⟩ }) ∧
  s.graceCode = 4 ∧ s.counterMode = .saturate ∧ s.standbyCeiling = 64 ∧
  (∀ m : ModuleId, moduleAt s m =
    { context :=
        { telemetry := .none, filtered := none, thermalGrade := 7, lastCurrent := none, lastReflection := none,
          silenceTimer := some (4 * 512), binPeriodCode := 125, filterShift := 2, silenceCode := 4, mask := 0,
          currentLimit := 65535, reflectionLimit := 255, slopeLimit := 255 },
      ring :=
        { bins := Vector.replicate 32 ⟨0, 0, none⟩, current := 0, windowEnergy := 0, windowFrames := 0,
          energyGrade := 0, slopeReference := none, binTimer := 125 * 64 },
      throttle := { state := .unprofiled, clampBackoff := 0, holdTimer := none, strikes := 0, latched := 0 },
      accounts := ⟨0, 0⟩, active := none, scrub := false }) ∧
  s.shadow = Vector.replicate 410 0 ∧ s.shadowState = .empty ∧ s.load = none ∧ s.longCommand = .none ∧
  s.reports = [] ∧ s.reportGap = false ∧ s.pending = []

/-- The state after reset obeys every law. -/
def Obligations.ResetIsLawful : Prop := Lawful State.reset

/-- R166, R167: released, the reset pin leaves the part as after reset, with the node number the straps give; so does
HARD RESET, whatever it carries and however full the queue is, but that a frame partly sent toward the modem is still on
its way. Asserted, the pin makes the part OFFLINE with nothing in progress, and the node number stands till it is sampled
(that the other fields are then held at their reset values is the model's choice, log entry 6). -/
def Obligations.TheResetsReturnEveryBlockToItsResetValues : Prop :=
  (∀ s : State, ∃ t, exec .resetPinAssertion s = .next t ∧ t.deviceState = .offline ∧ t.pending = s.pending ∧
    t.droopLine = s.droopLine ∧ t.nsel1 = s.nsel1 ∧ t.nsel0 = s.nsel0 ∧ t.nodeNumber = s.nodeNumber ∧
    t.longCommand = .none ∧ t.load = none ∧
    t.forwardOutput = [] ∧ t.modemWaiting = [] ∧ t.returnBuffer = [] ∧ t.returnLane = none ∧ t.reports = [] ∧
    (∀ p, (pathAt t p).burst = none) ∧ (∀ m, (moduleAt t m).scrub = false)) ∧
  ∀ (a b : Bool) (s : State), ∃ node : Fin 4, node.val = 2 * a.toNat + b.toNat ∧
    let base := { State.reset with
      pending := s.pending, droopLine := s.droopLine, nsel1 := a, nsel0 := b, nodeNumber := node }
    exec (.resetPinRelease a b) s = .next base ∧
    ∀ params : List Word, params.length ≤ 12 → PortOpen s →
      exec (.hardReset params a b) s = .next { base with returnLane := s.returnLane }

/-- In OFFLINE every command but the pins' leaves the part as it stands (HARD RESET's operands still say how the strap
pins stand). The laws assumed hold in every state that the reset pin's assertion leaves. -/
def Obligations.InOfflineOnlyThePinsAct : Prop :=
  ∀ (c : Instr) (s : State), s.deviceState = .offline → OperationsAgree s → ScrubsLawful s →
    match c with
    | .resetPinAssertion => True
    | .resetPinRelease _ _ => True
    | .droopAssertingEdge => exec c s = .next { s with droopLine := true }
    | .droopReleasingEdge => exec c s = .next { s with droopLine := false }
    | .hardReset _ a b => exec c s = .next { s with nsel1 := a, nsel0 := b }
    | _ => exec c s = .next s

/-! ### Sample frames and markers -/

/-- R60: a SAMPLE frame in position on a granted burst leaves unchanged, is accrued, and moves the record on. -/
def Obligations.ASampleInPositionIsForwardedAndAccrued : Prop :=
  ∀ (p : PathId) (spare : BitVec 9) (position : Word) (samples : List Word) (s : State) (b : BurstRecord) (g : Nat),
    PortOpen s → (pathAt s p).burst = some b → b.granted = .code g →
    b.next ≤ position.toNat → position.toNat < b.declared →
    let c := pathAt s p
    let x := moduleAt s c.moduleId
    let bin := currentBin x.ring
    let energy := min b.weight (134217727 - bin.energy)
    let frames := if bin.frames < 16777215 then 1 else 0
    let peak := match bin.peak with
      | some h => max h g
      | none => g
    exec (.sample p spare position samples) s = .next
      (setPathAt p { c with
          burst := some { b with next := position.toNat + 1, forwarded := b.forwarded + 1 },
          counters := { c.counters with forwarded := growCounter s.counterMode c.counters.forwarded } }
        (setModuleAt c.moduleId { x with
            ring := { x.ring with
              bins := x.ring.bins.set x.ring.current.val ⟨bin.energy + energy, bin.frames + frames, some peak⟩
                x.ring.current.isLt,
              windowEnergy := x.ring.windowEnergy + energy,
              windowFrames := x.ring.windowFrames + frames,
              energyGrade := gradeFor x (x.ring.windowEnergy + energy) },
            accounts := { x.accounts with committed := x.accounts.committed - (position.toNat + 1 - b.next) } }
          { s with forwardOutput := [sampleFrame p spare position samples] }))

/-- R61, R62: a SAMPLE frame out of position on a granted burst, on a blanked burst or on an IDLE path is dropped and
counted, and nothing else changes. -/
def Obligations.ASampleNotInPositionIsDropped : Prop :=
  ∀ (p : PathId) (spare : BitVec 9) (position : Word) (samples : List Word) (s : State), PortOpen s →
    let c := pathAt s p
    ((∃ b g, c.burst = some b ∧ b.granted = .code g ∧ (position.toNat < b.next ∨ b.declared ≤ position.toNat)) ∨
      (∃ b, c.burst = some b ∧ b.granted = .off) ∨ c.burst = none) →
    exec (.sample p spare position samples) s = .next (setPathAt p
      { c with counters := { c.counters with dropped := growCounter s.counterMode c.counters.dropped } } s)

/-- R66, R69, R70: a BURST CLOSE ends the burst of its path, takes its share from the accounts and leaves unchanged. A
grace expiry truncates the burst: its share leaves the accounts, a BURST CLOSE is inserted and the path's bursts
truncated counter grows. -/
def Obligations.ABurstEndsByItsCloseOrItsGraceExpiry : Prop :=
  ∀ (p : PathId) (s : State) (b : BurstRecord), s.deviceState ≠ .offline → (pathAt s p).burst = some b →
    exec (.graceExpiry p) s = .next (truncated p b s) ∧
    ∀ spare : BitVec 9, PortOpen s →
      let c := pathAt s p
      let x := moduleAt s c.moduleId
      exec (.burstClose p spare) s = .next
        (setPathAt p { c with burst := none }
          (setModuleAt c.moduleId { x with accounts := shareLeft b x.accounts }
            { s with forwardOutput := [burstCloseFrame p spare] }))

/-- R64, R67: a BURST CLOSE or a LEVEL STEP on an IDLE path is dropped and counted, and nothing else changes; a LEVEL
STEP on a blanked burst is forwarded with OFF and changes nothing in the record. -/
def Obligations.AMarkerOffAGrantedBurstChangesNoRecord : Prop :=
  ∀ (p : PathId) (spare : BitVec 9) (level : Word) (s : State), PortOpen s →
    let c := pathAt s p
    let dropped := setPathAt p
      { c with counters := { c.counters with dropped := growCounter s.counterMode c.counters.dropped } } s
    (c.burst = none → exec (.burstClose p spare) s = .next dropped ∧ exec (.levelStep p spare level) s = .next dropped) ∧
    (∀ b, c.burst = some b → b.granted = .off →
      exec (.levelStep p spare level) s = .next { s with forwardOutput := [levelStepFrame p spare 0x00FF] })

/-- R63: a LEVEL STEP on a granted burst lowers it to the smaller of its level and the new request less the applied
backoff, and leaves carrying that level. -/
def Obligations.ALevelStepMovesAGrantedBurst : Prop :=
  ∀ (p : PathId) (spare : BitVec 9) (level : Word) (s : State) (b : BurstRecord) (g a : Nat),
    PortOpen s → (pathAt s p).burst = some b → b.granted = .code g → b.backoff = some a →
    let c := pathAt s p
    let x := moduleAt s c.moduleId
    let r := if level.toNat ≤ 127 then level.toNat else 0
    let n := min g (r - a)
    let w := if n < g then weightFor x n else b.weight
    exec (.levelStep p spare level) s = .next
      (setPathAt p { c with
          burst := some { b with requested := r, granted := .code n, weight := w, backoff := some (r - n) } }
        (setModuleAt c.moduleId { x with
            accounts := { x.accounts with inFlight := x.accounts.inFlight + w - b.weight } }
          { s with forwardOutput := [levelStepFrame p spare (BitVec.ofNat 16 n)] }))

/-- R74: a counter at its top stays there in SATURATE and becomes 0 in WRAP; below it grows by 1 in either mode. -/
def Obligations.ACounterSaturatesOrWraps : Prop :=
  ∀ (mode : CounterMode) (c : BitVec 32),
    (c.toNat = 4294967295 → growCounter .saturate c = c ∧ growCounter .wrap c = 0) ∧
    (c.toNat < 4294967295 → (growCounter mode c).toNat = c.toNat + 1)

/-! ### Opening a burst -/

/-- R57: a BURST OPEN whose level is read as OFF opens nothing: a burst in progress is truncated, and the marker leaves
unchanged behind the inserted close. -/
def Obligations.ABurstOpenAskingOffOpensNothing : Prop :=
  ∀ (p : PathId) (spare : BitVec 9) (declared level : Word) (s : State), PortOpen s → 127 < level.toNat →
    ((pathAt s p).burst = none →
      exec (.burstOpen p spare declared level) s =
        .next { s with forwardOutput := [burstOpenFrame p spare declared level] }) ∧
    (∀ b, (pathAt s p).burst = some b →
      exec (.burstOpen p spare declared level) s = .next { truncated p b s with
        forwardOutput := [burstCloseFrame p 0, burstOpenFrame p spare declared level] })

/-- R59: a BURST OPEN on a path in a burst does what it would do on the part that the truncation of that burst leaves,
with the inserted close ahead on the lane. -/
def Obligations.ABurstOpenInABurstTruncatesItFirst : Prop :=
  ∀ (p : PathId) (spare : BitVec 9) (declared level : Word) (s : State) (b : BurstRecord),
    PortOpen s → level.toNat ≤ 127 → (pathAt s p).burst = some b →
    ∃ t, exec (.burstOpen p spare declared level) { truncated p b s with forwardOutput := [] } = .next t ∧
      exec (.burstOpen p spare declared level) s =
        .next { t with forwardOutput := burstCloseFrame p 0 :: t.forwardOutput }

/-- R78, R82, R83: a burst is blanked by the first of these tests that applies: LOCKDOWN; SELFTEST or TESTING; a path
that is not enabled; in GOVERNING, a class that the record in force does not admit; a length that would carry the module
past its allowance. -/
def Obligations.ABurstIsBlankedByTheFirstTestThatApplies : Prop :=
  ∀ (p : PathId) (spare : BitVec 9) (declared level : Word) (s : State),
    PortOpen s → level.toNat ≤ 127 → (pathAt s p).burst = none →
    let x := moduleAt s (pathAt s p).moduleId
    let run := exec (.burstOpen p spare declared level) s
    let blanked := fun reason => Host.Outcome.next
      (opened p spare declared level.toNat (.blank reason) .off 0 0 s)
    (s.deviceState = .lockdown → run = blanked .lockdown) ∧
    ((s.deviceState = .selftest ∨ s.deviceState = .testing) → run = blanked .testing) ∧
    ((s.deviceState = .standby ∨ s.deviceState = .governing) → (pathAt s p).enabled = false → run = blanked .pathOff) ∧
    (∀ a, Governed p a s →
      (admits (recordOf p a s).classes (pathAt s p).trafficClass = false → run = blanked .notAdmitted) ∧
      (∀ k, admits (recordOf p a s).classes (pathAt s p).trafficClass = true → (recordOf p a s).allowance = some k →
        16 * k < x.ring.windowFrames + x.accounts.committed + lengthTaken declared → run = blanked .duty))

/-- R81: in STANDBY, and in GOVERNING on a module without a profile, a burst is granted the smallest of its request, the
standby ceiling and the clamp limit, and the verdict names what lowered it. -/
def Obligations.ABurstIsHeldToTheCeilingAndTheClamp : Prop :=
  ∀ (p : PathId) (spare : BitVec 9) (declared level : Word) (s : State),
    PortOpen s → level.toNat ≤ 127 → (pathAt s p).burst = none → (pathAt s p).enabled = true →
    let x := moduleAt s (pathAt s p).moduleId
    (s.deviceState = .standby ∨ (s.deviceState = .governing ∧ x.active = none)) →
    let r := level.toNat
    let top := min r s.standbyCeiling
    let grant := fun v g => Host.Outcome.next (opened p spare declared r v (.code g) (weightFor x g) 0 s)
    ((x.active = none ∨ clampOf x.throttle = none) →
      exec (.burstOpen p spare declared level) s = grant (if top = r then .pass else .trim .ceiling) top) ∧
    (∀ a k, x.active = some a → clampOf x.throttle = some k →
      let limit := r - k
      let g := min top limit
      exec (.burstOpen p spare declared level) s =
        grant (if g = r then .pass else if limit ≤ top then .trim .clamp else .trim .ceiling) g)

/-- R84 to R86: past the class and duty tests a burst is granted the highest level, from its request less the effective
backoff down, whose weight fits the headroom; PASS or TRIM(CLAMP) by the backoff at the first level, TRIM(HEADROOM)
below it. -/
def Obligations.ABurstIsGrantedTheHighestLevelThatFits : Prop :=
  ∀ (p : PathId) (spare : BitVec 9) (declared level : Word) (s : State) (a : ActiveProfile) (g : Nat),
    Governed p a s → level.toNat ≤ 127 → PassesClassAndDuty p a (lengthTaken declared) s →
    let x := moduleAt s (pathAt s p).moduleId
    let g0 := level.toNat - backoffFor p a s
    let room := fun k => Fits a.words (recordOf p a s).headroom x.accounts.inFlight k
    g ≤ g0 → room g → (∀ k, g < k → k ≤ g0 → ¬ room k) →
    exec (.burstOpen p spare declared level) s = .next (opened p spare declared level.toNat
      (if g = g0 then (if backoffFor p a s = (recordOf p a s).backoff then .pass else .trim .clamp)
        else .trim .headroom)
      (.code g) (weight a.words g) 0 s)

/-- R87 to R89: where no level fits, a VOICE or SIGNALLING burst has every DATA burst of the module above level 0
lowered to level 0, in path order, and is granted the highest level that then fits, TRIM(PREEMPT), or blanked HEADROOM;
a DATA burst, or one with nothing to pre-empt, is blanked HEADROOM. -/
def Obligations.AHigherClassPreemptsData : Prop :=
  ∀ (p : PathId) (spare : BitVec 9) (declared level : Word) (s : State) (a : ActiveProfile),
    Governed p a s → level.toNat ≤ 127 → PassesClassAndDuty p a (lengthTaken declared) s →
    let m := (pathAt s p).moduleId
    let g0 := level.toNat - backoffFor p a s
    let h := (recordOf p a s).headroom
    let qs := dataAbove0 s m
    let u := loweredTo0 qs s
    (∀ k ≤ g0, ¬ Fits a.words h (moduleAt s m).accounts.inFlight k) →
    ((((pathAt s p).trafficClass = .data ∨ qs = []) →
      exec (.burstOpen p spare declared level) s = .next (opened p spare declared level.toNat
        (.blank .headroom) .off 0 0 s)) ∧
    ((pathAt s p).trafficClass ≠ .data → qs ≠ [] →
      (∀ g ≤ g0, Fits a.words h (moduleAt u m).accounts.inFlight g →
        (∀ k, g < k → k ≤ g0 → ¬ Fits a.words h (moduleAt u m).accounts.inFlight k) →
        exec (.burstOpen p spare declared level) s = .next (opened p spare declared level.toNat
          (.trim .preempt) (.code g) (weight a.words g) qs.length u)) ∧
      ((∀ k ≤ g0, ¬ Fits a.words h (moduleAt u m).accounts.inFlight k) →
        exec (.burstOpen p spare declared level) s = .next (opened p spare declared level.toNat
          (.blank .headroom) .off 0 qs.length u))))

/-! ### Telemetry, criteria and the throttle -/

/-- R22, R24, R27: at a TELEMETRY frame with a temperature the reading is held within -160 to +600, the filter is seeded
or moved by it, the grade follows from the new value and the silence timer starts again; then the frame's other readings
are taken, and it goes to the return buffer as it came. -/
def Obligations.ATemperatureReadingIsFilteredAndGraded : Prop :=
  ∀ (spare : BitVec 12) (w presence temperature current reflection : Word) (m : ModuleId) (s : State),
    s.deviceState ≠ .offline → w.toNat = m.val → presence.getLsbD 0 = true →
    let x := moduleAt s m
    let c := x.context
    let reading := max (-160) (min 600 temperature.toInt)
    ∃ (f : Int) (g : Nat),
      exec (.telemetry spare w presence temperature current reflection) s = .next
        (buffered (telemetryFrame spare w presence temperature current reflection)
          (otherReadings m presence current reflection (setModuleAt m { x with context := { c with
            telemetry := .fresh, filtered := some f, thermalGrade := g, silenceTimer := silenceStart c.silenceCode } }
            s))) ∧
      (c.telemetry ≠ .fresh → f = reading ∧ (x.active = none → g = 7) ∧
        ∀ a, x.active = some a → HighestReached a.words f g) ∧
      (∀ old, c.telemetry = .fresh → c.filtered = some old →
        f = old + Int.fdiv (reading - old) (2 ^ c.filterShift) ∧ (x.active = none → g = c.thermalGrade) ∧
        ∀ a, x.active = some a → Regraded a.words f c.thermalGrade g)

/-- R21, R32 to R34: at a TELEMETRY frame without a temperature the current and the reflection are taken in that order,
each where it is present, and the frame goes to the return buffer as it came; a module word above 3 names no module. -/
def Obligations.ReadingsAboveTheirLimitsFire : Prop :=
  ∀ (spare : BitVec 12) (w presence temperature current reflection : Word) (s : State), s.deviceState ≠ .offline →
    let frame := telemetryFrame spare w presence temperature current reflection
    let run := exec (.telemetry spare w presence temperature current reflection) s
    (3 < w.toNat → run = .next (buffered frame s)) ∧
    ∀ m : ModuleId, w.toNat = m.val → presence.getLsbD 0 = false →
      run = .next (buffered frame (otherReadings m presence current reflection s))

/-- R99, R101: a firing joins the latched criteria set; if the mask selects it, it does nothing more in UNPROFILED and
LATCHED, restarts the hold in CLAMPED, and in NORMAL and RELEASING it is a strike, which clamps, or latches at the
strike limit, lowers the bursts above their clamp limit and queues a THROTTLE NOTICE. -/
def Obligations.AFiringActsByTheThrottleState : Prop :=
  ∀ (m : ModuleId) (c : Criterion) (s : State),
    let x := moduleAt s m
    let t := x.throttle
    let t1 := { t with latched := t.latched ||| (1#5 <<< criterionCode c) }
    let selected := x.context.mask.getLsbD (criterionCode c)
    ((selected = false ∨ t.state = .unprofiled ∨ t.state = .latched) → fire m c s = setThrottle m t1 s) ∧
    (∀ a, x.active = some a → selected = true →
      (t.state = .clamped →
        fire m c s = setThrottle m { t1 with holdTimer := some (64 * holdCode a.words) } s) ∧
      ((t.state = .normal ∨ t.state = .releasing) →
        let limit := strikeLimit a.words
        let back := clampBackoff a.words
        (t.strikes + 1 < limit → fire m c s =
          offer (.throttleNotice m t.state .clamped (.criterion c) (t.strikes + 1) back)
            (clampEntry m (setThrottle m { t1 with
              state := .clamped, strikes := t.strikes + 1, clampBackoff := back,
              holdTimer := some (64 * holdCode a.words) } s))) ∧
        (limit ≤ t.strikes + 1 → fire m c s =
          offer (.throttleNotice m t.state .latched (.criterion c) limit back)
            (clampEntry m (setThrottle m { t1 with
              state := .latched, strikes := limit, clampBackoff := back, holdTimer := none } s)))))

/-- R105: at a clamp entry each granted burst of the module above its requested level less the clamp backoff in force is
lowered to that level, a LEVEL STEP for each in path order; no other burst and no other module changes. -/
def Obligations.AClampEntryLowersBurstsAboveTheirLimit : Prop :=
  ∀ (m : ModuleId) (s : State),
    let x := moduleAt s m
    let limit := fun b : BurstRecord => b.requested - x.throttle.clampBackoff
    let hit := fun q : PathId =>
      match (pathAt s q).burst with
      | some b =>
        match b.granted with
        | .code g => if (pathAt s q).moduleId = m ∧ limit b < g then some b else none
        | .off => none
      | none => none
    let t := clampEntry m s
    t = { s with paths := t.paths, modules := t.modules, forwardOutput := t.forwardOutput } ∧
    (∀ q, pathAt t q = match hit q with
      | some b => loweredPath s.counterMode x (pathAt s q) b (limit b)
      | none => pathAt s q) ∧
    t.forwardOutput = s.forwardOutput ++ allPaths.filterMap (fun q =>
      (hit q).map fun b => levelStepFrame q 0 (BitVec.ofNat 16 (limit b))) ∧
    (∀ n, n ≠ m → moduleAt t n = moduleAt s n) ∧
    moduleAt t m = { x with accounts := { x.accounts with inFlight := (moduleAt t m).accounts.inFlight } } ∧
    (AccountsExact s → AccountsExact t)

/-- R31, R114: at a silence expiry the timer stops; a module in FRESH becomes STALE with grade 7 and SILENCE fires; one
in NONE or STALE does not change. An asserting edge of the droop line fires DROOP on the modules 0 to 3; a releasing
edge fires nothing. (That the modules fire in the order of their numbers is the model's choice, log entry 22, and the
line's level, which follows the edges, is as the model holds it, log entry 5.) -/
def Obligations.SilenceAndDroopFireTheirCriteria : Prop :=
  ∀ s : State,
    (s.deviceState ≠ .offline → exec .droopAssertingEdge s = .next
      (fire 3 .droop (fire 2 .droop (fire 1 .droop (fire 0 .droop { s with droopLine := true }))))) ∧
    exec .droopReleasingEdge s = .next { s with droopLine := false } ∧
    ∀ m : ModuleId, s.deviceState ≠ .offline →
      let x := moduleAt s m
      x.context.silenceTimer.isSome = true →
        (x.context.telemetry = .fresh → exec (.silenceTimerExpiry m) s = .next (fire m .silence
          (setModuleAt m { x with context := { x.context with
            silenceTimer := none, telemetry := .stale, thermalGrade := 7 } } s))) ∧
        (x.context.telemetry ≠ .fresh → exec (.silenceTimerExpiry m) s = .next
          (setModuleAt m { x with context := { x.context with silenceTimer := none } } s))

/-- R103, R107: at a hold expiry a CLAMPED module whose mask selects DROOP restarts its hold while the droop line is
asserted; otherwise it becomes RELEASING, with its clamp backoff and strikes kept, and a notice is queued. CLEAR LATCH
makes a LATCHED module RELEASING with no strikes, and queues the notice and then the answer; in any other state it is
answered STATE, and for no module RANGE. -/
def Obligations.AClampIsReleasedByItsHoldOrByClearLatch : Prop :=
  ∀ s : State,
    (∀ w : Word, Executing s → 3 < w.toNat → exec (.clearLatch [w]) s = .next (answered 0x000C .range [] s)) ∧
    ∀ m : ModuleId,
      let x := moduleAt s m
      let t := x.throttle
      (∀ w : Word, Executing s → w.toNat = m.val →
        (t.state = .latched → exec (.clearLatch [w]) s = .next (answered 0x000C .done [w]
          (offer (.throttleNotice m .latched .releasing .clearLatch 0 t.clampBackoff)
            (setThrottle m { t with state := .releasing, strikes := 0 } s)))) ∧
        (t.state ≠ .latched → exec (.clearLatch [w]) s = .next (answered 0x000C .state [] s))) ∧
      (∀ a, s.deviceState ≠ .offline → x.active = some a → t.state = .clamped → t.holdTimer.isSome = true →
        let held := x.context.mask.getLsbD 3 = true ∧ s.droopLine = true
        (held → exec (.holdExpiry m) s = .next
          (setThrottle m { t with holdTimer := some (64 * holdCode a.words) } s)) ∧
        (¬ held → exec (.holdExpiry m) s = .next
          (offer (.throttleNotice m .clamped .releasing .holdExpiry t.strikes t.clampBackoff)
            (setThrottle m { t with state := .releasing, holdTimer := none } s))))

/-! ### The energy window -/

/-- R45, R43, R47, R49, R52: a ring advance makes the oldest bin current and clears it, takes it out of the sums, starts
the bin timer with the code as it stands, evaluates the energy grade, records the slope reference, and at index 0 starts
a scrub where one may start. No other module's entry changes. -/
def Obligations.ARingAdvanceDropsTheOldestBin : Prop :=
  ∀ (m : ModuleId) (s : State), s.deviceState ≠ .offline →
    let x := moduleAt s m
    let r := x.ring
    let i : BinId := ⟨(r.current.val + 1) % 32, Nat.mod_lt _ (by decide)⟩
    let oldest := r.bins[i.val]'i.isLt
    let starts := i = 0 ∧ x.active.isSome = true ∧ (∀ k, s.longCommand ≠ .commit m k) ∧
      (s.deviceState = .standby ∨ s.deviceState = .governing)
    ∃ t, exec (.binExpiry m) s = .next t ∧
      t = { s with modules := t.modules, paths := t.paths, forwardOutput := t.forwardOutput,
                   returnBuffer := t.returnBuffer, returnLane := t.returnLane, runCount := t.runCount,
                   reports := t.reports, reportGap := t.reportGap, status := t.status } ∧
      (moduleAt t m).ring = { r with
        current := i, bins := r.bins.set i.val ⟨0, 0, none⟩ i.isLt,
        windowEnergy := r.windowEnergy - oldest.energy, windowFrames := r.windowFrames - oldest.frames,
        energyGrade := gradeFor x (r.windowEnergy - oldest.energy),
        slopeReference := if x.context.telemetry = .none then none else x.context.filtered,
        binTimer := 64 * x.context.binPeriodCode } ∧
      (moduleAt t m).context = x.context ∧ (moduleAt t m).active = x.active ∧
      (moduleAt t m).accounts.committed = x.accounts.committed ∧
      ((moduleAt t m).scrub = true ↔ x.scrub = true ∨ starts) ∧
      (∀ n, n ≠ m → moduleAt t n = moduleAt s n)

/-- R45, R49, R50, R104: in a ring advance, once the ring has moved and the slope reference is recorded, SLOPE fires
where the module is FRESH, a reference was held and the filtered temperature stands above it by more than the slope
limit; then comes the release step, and at index 0 a scrub starts where one may start. That is the whole of the part
after the advance, on a module with or without a profile, whether or not SLOPE fires. -/
def Obligations.ARingAdvanceTestsTheSlopeThenReleases : Prop :=
  ∀ (m : ModuleId) (s : State), s.deviceState ≠ .offline →
    let x := moduleAt s m
    let r := x.ring
    let c := x.context
    let i : BinId := ⟨(r.current.val + 1) % 32, Nat.mod_lt _ (by decide)⟩
    let oldest := r.bins[i.val]'i.isLt
    let moved := setModuleAt m { x with ring := { r with
      current := i, bins := r.bins.set i.val ⟨0, 0, none⟩ i.isLt,
      windowEnergy := r.windowEnergy - oldest.energy, windowFrames := r.windowFrames - oldest.frames,
      energyGrade := gradeFor x (r.windowEnergy - oldest.energy),
      slopeReference := if c.telemetry = .none then none else c.filtered,
      binTimer := 64 * c.binPeriodCode } } s
    let steep := c.telemetry = .fresh ∧ ∃ old f, r.slopeReference = some old ∧ c.filtered = some f ∧
      (c.slopeLimit : Int) < f - old
    let starts := i = 0 ∧ x.active.isSome = true ∧ (∀ k, s.longCommand ≠ .commit m k) ∧
      (s.deviceState = .standby ∨ s.deviceState = .governing)
    let leaves := fun u : State =>
      (starts → exec (.binExpiry m) s = .next (setModuleAt m { moduleAt u m with scrub := true } u)) ∧
      (¬ starts → exec (.binExpiry m) s = .next u)
    (steep → leaves (releaseStepped m (fire m .slope moved))) ∧ (¬ steep → leaves (releaseStepped m moved))

/-- R171: the examination of a bin leaves every ring as it was; what it found joins the run's record, the first finding
standing (that it stands is the model's choice, log entry 10), while RING STORE runs. -/
def Obligations.ARingStoreExaminationLeavesTheRings : Prop :=
  ∀ (m : ModuleId) (bin : BinId) (found : Option StoreFault) (s : State),
    ((∃ tests, s.longCommand = .runTests tests ∧ tests.getLsbD 1 = true) ∨
        (s.longCommand = .none ∧ s.deviceState = .selftest) →
      exec (.ringStoreBinExamination m bin found) s = .next { s with
        ringFault := match s.ringFault with
          | some f => some f
          | none => found }) ∧
    ((s.longCommand = .none ∧ s.deviceState ≠ .selftest) →
      exec (.ringStoreBinExamination m bin found) s = .next s)

/-! ### The link and the reports -/

/-- R136, R137: a forward frame that fails its check is discarded with FORWARD CHECK; one of a kind the part does not
read, or of another node, leaves unchanged. While the forward output holds a frame, or one waits ahead, an arrival waits
on the link; when the front frame has left and the output is empty, the first waiting frame is taken, and as long as
the output stays empty the next ones (within that event: the model's reading, log entry 7). -/
def Obligations.TheModemPortChecksPassesAndWaits : Prop :=
  ∀ s : State, s.deviceState ≠ .offline →
    (∀ f : Frame, PortOpen s →
      (passesForward f = false → exec (.forwardFrameFailingItsCheck f) s = .next (latch 0 s)) ∧
      (passesForward f = true →
        ((4 < frameKind f ∧ frameKind f ≠ 8 ∧ frameKind f ≠ 9) ∨ frameKind f = 0 ∨
          ((frameKind f = 8 ∨ frameKind f = 9) ∧ frameNode f ≠ s.nodeNumber.val)) →
        exec (.forwardPassThrough f) s = .next { s with forwardOutput := [f] })) ∧
    (∀ f : Frame, (s.forwardOutput ≠ [] ∨ s.modemWaiting ≠ []) →
      exec (.forwardPassThrough f) s = .next { s with modemWaiting := s.modemWaiting ++ [f] }) ∧
    ((s.modemWaiting = [] ∨ s.forwardOutput.tail ≠ []) →
      exec .forwardOutputSent s = .next { s with forwardOutput := s.forwardOutput.tail }) ∧
    (∀ f fs, s.forwardOutput.tail = [] → s.modemWaiting = f :: fs →
      let t := takeFrame f { s with forwardOutput := [], modemWaiting := fs }
      (t.forwardOutput ≠ [] → exec .forwardOutputSent s = .next { t with modemWaiting := fs }) ∧
      (t.forwardOutput = [] → exec .forwardOutputSent s = exec .forwardOutputSent { t with modemWaiting := fs }))

/-- R140 to R142: a return frame that fails its check adds RETURN CHECK; either way it enters the buffer unchanged when
the buffer holds fewer than 4, where an idle lane sends at once, and is else discarded with RETURN OVERRUN. -/
def Obligations.AReturnFrameEntersTheBuffer : Prop :=
  ∀ (f : Frame) (s : State), s.deviceState ≠ .offline →
    (passesReturn f = false → exec (.returnFrame f) s = .next (buffered f (latch 1 s))) ∧
    (passesReturn f = true → frameKind f ≠ 12 → exec (.returnFrame f) s = .next (buffered f s))

/-- R142, R143, R148, R149, R162: when the lane becomes free the arbiter sends the oldest radio frame, or the oldest
report where the buffer is empty or four radio frames have gone ahead of a waiting report; a report leaves as the REPORT
frame whose words the tables give, with the gap flag, which it clears. (That the lane's becoming free is a command is
the model's choice, log entry 12.) -/
def Obligations.TheMergeArbiterChooses : Prop :=
  ∀ s : State, s.deviceState ≠ .offline → exec .mergeArbiterChoice s = .next (chosen s)

/-- R161: a report enters, displaces the oldest BURST VERDICT or is dropped, by its class and the number of entries
held; each loss sets the gap flag and REPORT OVERFLOW; the queue's bounds stand; and an entry on an idle lane is followed
by the arbiter's choice at once (R142). -/
def Obligations.TheReportQueueTakesByClass : Prop :=
  ∀ (r : Report) (s : State),
    let n := s.reports.length
    let enters := settled { s with reports := s.reports ++ [r] }
    let lost := latch 3 { s with reportGap := true }
    (ReportsWithin s → ReportsWithin (offer r s)) ∧
    (reportClass r = .answer → (n < 16 → offer r s = enters) ∧ (16 ≤ n → offer r s = lost)) ∧
    (reportClass r = .verdict → (n < 14 → offer r s = enters) ∧ (14 ≤ n → offer r s = lost)) ∧
    (reportClass r = .notice → (n < 14 → offer r s = enters) ∧
      (14 ≤ n → (∀ v ∈ s.reports, reportClass v ≠ .verdict) → offer r s = lost) ∧
      (14 ≤ n → ∀ before v after, s.reports = before ++ v :: after → reportClass v = .verdict →
        (∀ u ∈ before, reportClass u ≠ .verdict) →
        offer r s = settled (latch 3 { s with reportGap := true, reports := before ++ after ++ [r] })))

/-! ### Loading and committing -/

/-- R117: LOAD OPEN out of range is answered RANGE, with a load open BUSY, and else opens the load. -/
def Obligations.LoadOpenOpensALoad : Prop :=
  ∀ (start cnt gap : Word) (s : State), Executing s →
    let inRange := start.toNat ≤ 12 ∧ 1 ≤ cnt.toNat ∧ cnt.toNat ≤ 13 ∧ start.toNat + cnt.toNat ≤ 13 ∧
      1 ≤ gap.toNat ∧ gap.toNat ≤ 15
    (¬ inRange → exec (.loadOpen [start, cnt, gap]) s = .next (answered 0x0007 .range [] s)) ∧
    (inRange → s.load.isSome = true → exec (.loadOpen [start, cnt, gap]) s = .next (answered 0x0007 .busy [] s)) ∧
    (inRange → s.load = none → exec (.loadOpen [start, cnt, gap]) s = .next (answered 0x0007 .done [] { s with
      shadowState := .loading,
      load := some { start := start.toNat, count := cnt.toNat, expected := start.toNat, taken := 0,
                     gapCode := gap.toNat, gapTimer := 80 * gap.toNat } }))

/-- R119: the expected segment is written at its place, the padding is not stored, and the load goes on with its gap
timer restarted, or completes with the shadow READY and a LOAD RESULT. -/
def Obligations.AnExpectedSegmentIsWritten : Prop :=
  ∀ (index : Word) (words : List Word) (s : State) (l : LoadContext),
    PortOpen s → words.length = 32 → s.load = some l → index.toNat = l.expected →
    ∃ sh : Profile,
      (∀ i, i < 410 → profileWord sh i = if 32 * l.expected ≤ i ∧ i < 32 * l.expected + 32
        then (words[i - 32 * l.expected]?).getD 0 else profileWord s.shadow i) ∧
      (l.taken + 1 ≠ l.count → exec (.segment index words) s = .next { s with
        shadow := sh,
        load := some { l with expected := l.expected + 1, taken := l.taken + 1, gapTimer := 80 * l.gapCode } }) ∧
      (l.taken + 1 = l.count → exec (.segment index words) s = .next
        (offer (.loadResult .complete l.start l.count (l.taken + 1) none)
          { s with shadow := sh, load := none, shadowState := .ready }))

/-- R121, R125: a segment with another index than the expected one ends the load ORDER: nothing is written, the shadow
is INCOMPLETE, and the LOAD RESULT carries the segments taken and the index's low four bits. A segment with no load open
is discarded, and LOAD PROTOCOL is latched. -/
def Obligations.ASegmentOutOfPlaceIsNotWritten : Prop :=
  ∀ (index : Word) (words : List Word) (s : State), PortOpen s → words.length = 32 →
    (∀ l, s.load = some l → index.toNat ≠ l.expected → exec (.segment index words) s = .next
      (offer (.loadResult .order l.start l.count l.taken (some (index.toNat % 16)))
        { s with load := none, shadowState := .incomplete })) ∧
    (s.load = none → exec (.segment index words) s = .next (latch 4 s))

/-- R123, R124: at the expiry of the gap timer an open load ends TIMEOUT, at LOAD ABORT it ends ABORTED, with the shadow
INCOMPLETE and a LOAD RESULT, ahead of LOAD ABORT's answer. With no load open LOAD ABORT is answered STATE with 0
segments. -/
def Obligations.ALoadEndsByTimeoutOrAbort : Prop :=
  ∀ s : State,
    (∀ l, s.load = some l →
      let ends := fun o => offer (.loadResult o l.start l.count l.taken none)
        { s with load := none, shadowState := .incomplete }
      exec .gapTimerExpiry s = .next (ends .timeout) ∧
      (Executing s → exec (.loadAbort []) s =
        .next (answered 0x0008 .done [BitVec.ofNat 16 l.taken] (ends .aborted)))) ∧
    (s.load = none → Executing s → exec (.loadAbort []) s = .next (answered 0x0008 .state [0] s))

/-- R127: COMMIT is answered RANGE, BUSY or STATE by the first test that fails; an accepted one makes the shadow
COMMITTING, is the long command in progress, abandons a scrub of its module, and draws no answer yet. -/
def Obligations.CommitIsTestedThenStarts : Prop :=
  ∀ (w hi lo : Word) (s : State), Executing s →
    (3 < w.toNat → exec (.commit [w, hi, lo]) s = .next (answered 0x0009 .range [] s)) ∧
    ∀ m : ModuleId, w.toNat = m.val →
      (s.load.isSome = true → exec (.commit [w, hi, lo]) s = .next (answered 0x0009 .busy [] s)) ∧
      (s.load = none → s.shadowState ≠ .ready →
        exec (.commit [w, hi, lo]) s = .next (answered 0x0009 .state [] s)) ∧
      (s.load = none → s.shadowState = .ready → exec (.commit [w, hi, lo]) s = .next
        (setModuleAt m { moduleAt s m with scrub := false } { s with
          shadowState := .committing,
          longCommand := .commit m (BitVec.ofNat 32 (65536 * hi.toNat + lo.toNat)) }))

/-- R9, R129: a shadow passes the commit exactly when its check value agrees, every field is legal, and the six order
conditions hold; else the first that fails, in this order, is named. -/
def Obligations.ACommitNamesTheFirstConditionThatFails : Prop :=
  ∀ (p : Profile) (check : CheckValue),
    let legal := (∀ t < 8, ∀ e < 8, storedBackoff p t e ≤ 127 ∧ storedAdmit p t e ≤ 2) ∧
      (∀ g, 1 ≤ g → g ≤ 7 → -160 ≤ storedThermal p g ∧ storedThermal p g ≤ 600) ∧
      storedHysteresis p ≤ 63 ∧ storedClampBackoff p ≤ 127 ∧ (1 ≤ storedHoldCode p ∧ storedHoldCode p ≤ 255) ∧
      (1 ≤ storedReleaseStep p ∧ storedReleaseStep p ≤ 32) ∧ (1 ≤ storedStrikeLimit p ∧ storedStrikeLimit p ≤ 15)
    let thermal := ∀ g, 1 ≤ g → g ≤ 6 → storedThermal p g < storedThermal p (g + 1)
    let energy := ∀ g, 1 ≤ g → g ≤ 6 → energyThreshold p g < energyThreshold p (g + 1)
    let weights := ∀ g ≤ 126, weight p g ≤ weight p (g + 1)
    let grid := fun (field : Nat → Nat → Nat) (le : Nat → Nat → Prop) =>
      ∀ t < 8, ∀ e < 8, (t < 7 → le (field t e) (field (t + 1) e)) ∧ (e < 7 → le (field t e) (field t (e + 1)))
    let backoffs := grid (storedBackoff p) fun a b => a ≤ b
    let allowances := grid (storedAllowance p) fun a b => b ≤ a
    let classes := grid (storedAdmit p) fun a b => a ≤ b
    let f := commitFailure p check
    let c1 := profileCheck p = check
    (f = none ↔ c1 ∧ legal ∧ thermal ∧ energy ∧ weights ∧ backoffs ∧ allowances ∧ classes) ∧
    (f = some .checkMismatch ↔ ¬ c1) ∧
    (f = some .range ↔ c1 ∧ ¬ legal) ∧
    (f = some .thermalOrder ↔ c1 ∧ legal ∧ ¬ thermal) ∧
    (f = some .energyOrder ↔ c1 ∧ legal ∧ thermal ∧ ¬ energy) ∧
    (f = some .weightOrder ↔ c1 ∧ legal ∧ thermal ∧ energy ∧ ¬ weights) ∧
    (f = some .backoffOrder ↔ c1 ∧ legal ∧ thermal ∧ energy ∧ weights ∧ ¬ backoffs) ∧
    (f = some .allowanceOrder ↔ c1 ∧ legal ∧ thermal ∧ energy ∧ weights ∧ backoffs ∧ ¬ allowances) ∧
    (f = some .admitOrder ↔ c1 ∧ legal ∧ thermal ∧ energy ∧ weights ∧ backoffs ∧ allowances ∧ ¬ classes)

/-- R130, R106: a commit that passes puts the shadow's words and the COMMIT's check value in force, re-evaluates both
grades, makes an UNPROFILED module NORMAL with a notice ahead of the answer, keeps the throttle of a NORMAL one, and
leaves the shadow READY. Nothing else changes. -/
def Obligations.ASuccessfulCommitPutsTheProfileInForce : Prop :=
  ∀ (m : ModuleId) (check : CheckValue) (s : State),
    s.longCommand = .commit m check → commitFailure s.shadow check = none →
    let t := (moduleAt s m).throttle
    ∃ g : Nat, CommittedGrade m g s ∧
      let s1 := profileInForce m check g s
      (t.state = .normal → exec .commitCompletion s = .next (commitDone m s1)) ∧
      (t.state = .unprofiled → exec .commitCompletion s = .next (commitDone m
        (offer (.throttleNotice m .unprofiled .normal .commit 0 0)
          (setThrottle m { t with state := .normal, clampBackoff := 0, strikes := 0, holdTimer := none } s1))))

/-- R106, R130: the completion of a commit that passes keeps a CLAMPED or RELEASING module's throttle unless its strikes
reach the new limit; then the module is LATCHED under the new clamp backoff, its bursts are lowered and a notice is
queued ahead of the answer. A LATCHED module keeps its state, with its strikes held at the new limit. Nothing else
changes but what a commit puts in force. -/
def Obligations.ACommitCompletionMayLatch : Prop :=
  ∀ (m : ModuleId) (check : CheckValue) (s : State),
    s.longCommand = .commit m check → commitFailure s.shadow check = none →
    let t := (moduleAt s m).throttle
    let limit := strikeLimit s.shadow
    let back := clampBackoff s.shadow
    ∃ g : Nat, CommittedGrade m g s ∧
      let s1 := profileInForce m check g s
      ((t.state = .clamped ∨ t.state = .releasing) →
        (t.strikes < limit → exec .commitCompletion s = .next (commitDone m s1)) ∧
        (limit ≤ t.strikes → exec .commitCompletion s = .next (commitDone m
          (offer (.throttleNotice m t.state .latched .commit limit back)
            (clampEntry m (setThrottle m { t with
              state := .latched, strikes := limit, clampBackoff := back, holdTimer := none } s1)))))) ∧
      (t.state = .latched → exec .commitCompletion s = .next (commitDone m
        (setThrottle m { t with strikes := min t.strikes limit } s1)))

/-- R131: a commit that fails changes nothing but the shadow's state, READY again, and the long command, and is answered
FAILED with the module and the name of the failed condition. -/
def Obligations.AFailedCommitLeavesTheStore : Prop :=
  ∀ (s : State) (m : ModuleId) (check : CheckValue) (f : CommitFailure),
    s.longCommand = .commit m check → commitFailure s.shadow check = some f →
    exec .commitCompletion s = .next
      (answered 0x0009 .failed [wordOf m.val, failureCode f]
        { s with shadowState := .ready, longCommand := .none })

/-! ### Device states, tests and scrubs -/

/-- R168: when the power-up tests complete, their results are written; with TABLE STORE failed the device enters
LOCKDOWN with cause TEST, else it becomes STANDBY and queues its DEVICE STATE report. (That a bin's finding stands
before the completion's own is the model's choice, log entry 10.) -/
def Obligations.PowerUpEndsInStandbyOrLockdown : Prop :=
  ∀ (table ring : Option StoreFault) (s : State), s.deviceState = .selftest →
    let found := match s.ringFault with
      | some f => some f
      | none => ring
    (∀ f, table = some f → exec (.powerUpTestsCompletion table ring) s = .next
      (lockedDown .test { s with
        ringFault := none,
        testResults := match found with
          | some g => ⟨3, some .ringStore, some (.store g)⟩
          | none => ⟨1, some .tableStore, some (.store f)⟩ })) ∧
    (table = none →
      let results := match found with
        | some g => ⟨2, some .ringStore, some (.store g)⟩
        | none => ⟨0, none, none⟩
      exec (.powerUpTestsCompletion table ring) s = .next
        (offer (.deviceState .standby results s.lockdownCause)
          { s with ringFault := none, testResults := results, deviceState := .standby }))

/-- R174: a test run that finds nothing, or no more than RING STORE and LOOPBACK failing, returns the device to STANDBY
and is answered with its results; one in which TABLE STORE or PROFILE CHECK fails enters LOCKDOWN first. (That a
bin's finding stands before the completion's own is the model's choice, log entry 10.) -/
def Obligations.ATestRunEndsInStandbyOrLockdown : Prop :=
  ∀ (table ring : Option StoreFault) (loop : Option LoopFault) (tests : TestSet) (s : State),
    s.longCommand = .runTests tests →
    let found := match s.ringFault with
      | some f => some f
      | none => ring
    let bad : Bool := tests.getLsbD 3 && (firstMismatch s).isSome
    let failed : TestSet :=
      (if tests.getLsbD 0 && table.isSome then 1 else 0) ||| (if tests.getLsbD 1 && found.isSome then 2 else 0) |||
      (if tests.getLsbD 2 && loop.isSome then 4 else 0) ||| (if bad then 8 else 0)
    ∃ results : TestResults, results.failed = failed ∧
      (results.last = if failed.getLsbD 3 then some .profileCheck else if failed.getLsbD 2 then some .loopback
        else if failed.getLsbD 1 then some .ringStore else if failed.getLsbD 0 then some .tableStore else none) ∧
      (results.reason = if failed.getLsbD 3 then (firstMismatch s).map .profileOf
        else if failed.getLsbD 2 then loop.map .link else if failed.getLsbD 1 then found.map .store
        else if failed.getLsbD 0 then table.map .store else none) ∧
      let s1 := { s with testResults := results, ringFault := none }
      let detail := [failed.setWidth 16, testCode results.last, reasonCode results.reason]
      let outcome := if failed = 0 then AnswerOutcome.done else .failed
      ((failed.getLsbD 0 = false ∧ failed.getLsbD 3 = false) →
        exec (.testRunCompletion table ring loop) s = .next
          (answered 0x000F outcome detail { s1 with deviceState := .standby, longCommand := .none })) ∧
      ((failed.getLsbD 0 = true ∨ failed.getLsbD 3 = true) →
        exec (.testRunCompletion table ring loop) s = .next
          (answered 0x000F .failed detail (lockedDown .test s1)))

/-- R173, R176: a scrub whose recomputed check value agrees with the stored check ends with no other effect; one that
differs enters LOCKDOWN with cause SCRUB and the module. PROFILE CHECK finds the lowest module whose values differ, if
any. -/
def Obligations.TheStoredProfilesAreCheckedByTheirCheckValue : Prop :=
  ∀ s : State,
    let agrees := fun n : ModuleId => ∀ a, (moduleAt s n).active = some a → profileCheck a.words = a.check
    (firstMismatch s = none ↔ ∀ n, agrees n) ∧
    ∀ m : ModuleId, (firstMismatch s = some m ↔ ¬ agrees m ∧ ∀ n < m, agrees n) ∧
      let x := moduleAt s m
      let s1 := setModuleAt m { x with scrub := false } s
      (x.scrub = true → agrees m → exec (.scrubCompletion m) s = .next s1) ∧
      (x.scrub = true → ¬ agrees m → exec (.scrubCompletion m) s = .next (lockedDown (.scrub m) s1))

/-- A completion with nothing in progress and the expiry of a stopped timer change nothing: no rule gives such an event,
and that it does nothing is the model's reading (log entry 13). -/
def Obligations.AnEventThatCannotHappenChangesNothing : Prop :=
  ∀ s : State,
    (∀ p, (pathAt s p).burst = none → exec (.graceExpiry p) s = .next s) ∧
    (∀ m, (moduleAt s m).context.silenceTimer = none → exec (.silenceTimerExpiry m) s = .next s) ∧
    (∀ m, (moduleAt s m).throttle.holdTimer = none → exec (.holdExpiry m) s = .next s) ∧
    (s.load = none → exec .gapTimerExpiry s = .next s) ∧
    (∀ m, (moduleAt s m).scrub = false → exec (.scrubCompletion m) s = .next s) ∧
    ((∀ m check, s.longCommand ≠ .commit m check) → exec .commitCompletion s = .next s) ∧
    ∀ (table ring : Option StoreFault) (loop : Option LoopFault),
      (s.deviceState ≠ .selftest → exec (.powerUpTestsCompletion table ring) s = .next s) ∧
      ((∀ tests, s.longCommand ≠ .runTests tests) → exec (.testRunCompletion table ring loop) s = .next s)

/-! ### Commands -/

/-- R152, R153: at a full queue a command is discarded with REPORT OVERFLOW; else a code that names no command is
answered UNKNOWN in every device state, LOCKDOWN answers STATE and SELFTEST or a long command BUSY to the commands that
they do not execute, and a wrong number of parameter words is answered RANGE. LOAD ABORT carries the segments taken with
every outcome, and a GOVERN answered STATE in LOCKDOWN carries 0xFFFF (the model's reading, log entry 14). While a
commit runs a READ ENTRY whose first parameter word is kind 2 is executed, by R18 and R159, and every other READ ENTRY
and every SET PATH is answered BUSY, by R152's table (the model's choices, log entries 21 and 23). -/
def Obligations.ACommandIsRefusedByTheConditionOfThePart : Prop :=
  (∀ (code : Word) (params : List Word) (s : State), params.length ≤ 12 → PortOpen s →
    (code.toNat = 0 ∨ 17 < code.toNat) →
    (16 ≤ s.reports.length → exec (.unknownCommand code params) s = .next (latch 3 s)) ∧
    (s.reports.length < 16 → exec (.unknownCommand code params) s = .next (answered code .unknown [] s))) ∧
  ∀ (c : Instr) (code : Word) (takes : Nat) (params : List Word) (s : State),
    controlOf c = some (code, takes, params) → params.length ≤ 12 → PortOpen s →
    let always := code = 0x0001 ∨ code = 0x0002
    let restart := code = 0x0010
    let readsShadow := code = 0x000E ∧ params.head? = some 2 ∧ ∃ m check, s.longCommand = .commit m check
    let refused := fun o => Host.Outcome.next (answered code o
      (if code = 0x0008 then [takenSoFar s] else if code = 0x000A ∧ o = .state then [0xFFFF] else []) s)
    let long := s.deviceState = .testing ∨ s.longCommand ≠ .none
    (16 ≤ s.reports.length → exec c s = .next (latch 3 s)) ∧
    (s.reports.length < 16 →
      (¬ always → s.deviceState = .lockdown → exec c s = refused .state) ∧
      (¬ always → s.deviceState = .selftest → exec c s = refused .busy) ∧
      (¬ always → s.deviceState ≠ .lockdown → s.deviceState ≠ .selftest → long → ¬ restart → ¬ readsShadow →
        exec c s = refused .busy) ∧
      (params.length ≠ takes →
        (always ∨ ((s.deviceState = .standby ∨ s.deviceState = .governing) ∧ s.longCommand = .none) ∨
          ((restart ∨ readsShadow) ∧ s.deviceState ≠ .lockdown ∧ s.deviceState ≠ .selftest)) →
        exec c s = refused .range))

/-- R154, R157: IDENTIFY answers the vendor, part and revision numbers, the node number and the device state, and
changes nothing. READ STATUS answers the latched device status and ten words for each module, and with its clear flag
empties the latched device status and every latched criteria set; another flag is answered RANGE. -/
def Obligations.IdentifyAndReadStatusAnswerInEveryState : Prop :=
  ∀ (flag : Word) (s : State), Heard s →
    let figures := fun m : ModuleId =>
      let x := moduleAt s m
      [throttleCode x.throttle.state, BitVec.ofNat 16 x.context.thermalGrade, BitVec.ofNat 16 x.ring.energyGrade,
        BitVec.ofNat 16 (x.ring.windowEnergy / 65536), BitVec.ofNat 16 x.ring.windowEnergy,
        BitVec.ofNat 16 (x.ring.windowFrames / 65536), BitVec.ofNat 16 x.ring.windowFrames,
        BitVec.ofNat 16 x.throttle.clampBackoff, BitVec.ofNat 16 x.throttle.strikes, x.throttle.latched.setWidth 16]
    let detail := s.status.setWidth 16 :: (figures 0 ++ figures 1 ++ figures 2 ++ figures 3)
    exec (.identify []) s = .next (answered 0x0001 .done
      [0x0E27, 0x0024, 0x0010, wordOf s.nodeNumber.val, deviceCode s.deviceState] s) ∧
    (flag = 0 → exec (.readStatus [flag]) s = .next (answered 0x0002 .done detail s)) ∧
    (flag = 1 → exec (.readStatus [flag]) s = .next (answered 0x0002 .done detail { s with
      status := 0,
      modules := s.modules.map fun x => { x with throttle := { x.throttle with latched := 0 } } })) ∧
    (1 < flag.toNat → exec (.readStatus [flag]) s = .next (answered 0x0002 .range [] s))

/-- R158: SNAPSHOT answers the counter mode and the 56 counters, and with its clear flag zeroes them; another flag is
answered RANGE. -/
def Obligations.SnapshotCapturesThenClears : Prop :=
  ∀ (flag : Word) (s : State), Executing s →
    let two := fun c : BitVec 32 => [BitVec.ofNat 16 (c.toNat / 65536), BitVec.ofNat 16 c.toNat]
    let counts := fun p : PathId =>
      let k := (pathAt s p).counters
      two k.passed ++ two k.trimmed ++ two k.blanked ++ two k.lowered ++ two k.truncated ++ two k.forwarded ++
        two k.dropped
    let detail := (match s.counterMode with
        | .saturate => 0
        | .wrap => 1) ::
      (counts 0 ++ counts 1 ++ counts 2 ++ counts 3 ++ counts 4 ++ counts 5 ++ counts 6 ++ counts 7)
    (flag = 0 → exec (.snapshot [flag]) s = .next (answered 0x000D .done detail s)) ∧
    (flag = 1 → exec (.snapshot [flag]) s = .next (answered 0x000D .done detail { s with
      paths := s.paths.map fun c => { c with counters := ⟨0, 0, 0, 0, 0, 0, 0⟩ } })) ∧
    (1 < flag.toNat → exec (.snapshot [flag]) s = .next (answered 0x000D .range [] s))

/-- R159: READ ENTRY returns one entry of the part's tables behind its kind and indexes, and changes nothing: a record
as stored, a segment of the shadow, a bin, a path's context, a module's context, each in the words of R159's table;
RANGE or STATE where there is none. Every kind is executed where no long command is in progress; kind 2 is executed
during a commit too, and returns the shadow as the commit reads it (R18; the model's choice against R152's table, log
entry 21). -/
def Obligations.ReadEntryReturnsOneEntry : Prop :=
  ∀ (kind i j : Word) (s : State), Heard s → (s.deviceState = .standby ∨ s.deviceState = .governing) →
    (s.longCommand = .none ∨ kind.toNat = 2 ∧ ∃ m check, s.longCommand = .commit m check) →
    let run := exec (.readEntry [kind, i, j]) s
    let gives := fun ws : List Word => run = .next (answered 0x000E .done ([kind, i, j] ++ ws) s)
    let refused := fun o => run = .next (answered 0x000E o [] s)
    ((kind.toNat = 0 ∨ 5 < kind.toNat) → refused .range) ∧
    (kind.toNat = 1 →
      ((3 < i.toNat ∨ 63 < j.toNat) → refused .range) ∧
      ∀ m : ModuleId, i.toNat = m.val → j.toNat ≤ 63 →
        ((moduleAt s m).active = none → refused .state) ∧
        ∀ a, (moduleAt s m).active = some a → gives
          [profileWord a.words (4 * j.toNat), profileWord a.words (4 * j.toNat + 1),
            profileWord a.words (4 * j.toNat + 2), profileWord a.words (4 * j.toNat + 3)]) ∧
    (kind.toNat = 2 → (12 < i.toNat → refused .range) ∧
      (i.toNat ≤ 12 → gives ([shadowCode s.shadowState,
          match s.load with
          | some l => BitVec.ofNat 16 l.expected
          | none => 0xFFFF,
          match s.load with
          | some l => BitVec.ofNat 16 l.taken
          | none => 0xFFFF] ++
        (List.range 32).map fun k => if 32 * i.toNat + k < 410 then profileWord s.shadow (32 * i.toNat + k) else 0))) ∧
    (kind.toNat = 3 → ((3 < i.toNat ∨ 31 < j.toNat) → refused .range) ∧
      ∀ (m : ModuleId) (bin : BinId), i.toNat = m.val → j.toNat = bin.val →
        let r := (moduleAt s m).ring
        let b := r.bins[bin.val]'bin.isLt
        gives [BitVec.ofNat 16 (b.energy / 65536), BitVec.ofNat 16 b.energy, BitVec.ofNat 16 (b.frames / 65536),
          BitVec.ofNat 16 b.frames,
          match b.peak with
          | some g => BitVec.ofNat 16 g
          | none => 0xFFFF,
          if r.current = bin then 1 else 0, BitVec.ofNat 16 r.current.val,
          match r.slopeReference with
          | some f => BitVec.ofInt 16 f
          | none => 0x8000]) ∧
    (kind.toNat = 4 → (7 < i.toNat → refused .range) ∧
      ∀ p : PathId, i.toNat = p.val → gives (pathEntry (pathAt s p))) ∧
    (kind.toNat = 5 → (3 < i.toNat → refused .range) ∧
      ∀ m : ModuleId, i.toNat = m.val → gives (moduleEntry (moduleAt s m)))

/-- R75: SET PATH out of range is answered RANGE, for a path in a burst BUSY, for an enabled path on an unprofiled
module in GOVERNING STATE; else the four fields are written together. -/
def Obligations.SetPathWritesTheFourFields : Prop :=
  ∀ (w en md cl rep : Word) (s : State), Executing s →
    let run := exec (.setPath [w, en, md, cl, rep]) s
    ((7 < w.toNat ∨ 3 < md.toNat ∨ 2 < cl.toNat ∨ 1 < en.toNat ∨ 1 < rep.toNat) →
      run = .next (answered 0x0003 .range [] s)) ∧
    ∀ (p : PathId) (m : ModuleId), w.toNat = p.val → md.toNat = m.val → cl.toNat ≤ 2 → en.toNat ≤ 1 → rep.toNat ≤ 1 →
      ((pathAt s p).burst.isSome = true → run = .next (answered 0x0003 .busy [] s)) ∧
      ((pathAt s p).burst = none →
        let refused := s.deviceState = .governing ∧ en.toNat = 1 ∧ (moduleAt s m).active = none
        (refused → run = .next (answered 0x0003 .state [] s)) ∧
        (¬ refused → run = .next (answered 0x0003 .done [w] (setPathAt p { pathAt s p with
          enabled := decide (en.toNat = 1), moduleId := m, reporting := decide (rep.toNat = 1),
          trafficClass := if cl.toNat = 0 then .voice else if cl.toNat = 1 then .signalling else .data } s))))

/-- R30, R35, R36, R155: SET MODULE, SET LIMITS and SET DEVICE out of range are answered RANGE; else each writes its
settings together, and SET MODULE starts the silence timer again with the new code. -/
def Obligations.SettingsAreWrittenTogether : Prop :=
  ∀ (w w1 w2 w3 w4 : Word) (s : State), Executing s →
    let timing := exec (.setModule [w, w1, w2, w3, w4]) s
    let limits := exec (.setLimits [w, w1, w2, w3]) s
    let device := exec (.setDevice [w1, w2, w3]) s
    let timingInRange := 1 ≤ w1.toNat ∧ w1.toNat ≤ 255 ∧ w2.toNat ≤ 7 ∧ w3.toNat ≤ 15 ∧ w4.toNat ≤ 31
    let deviceInRange := w1.toNat ≤ 127 ∧ 1 ≤ w2.toNat ∧ w2.toNat ≤ 15 ∧ w3.toNat ≤ 1
    ((3 < w.toNat ∨ ¬ timingInRange) → timing = .next (answered 0x0004 .range [] s)) ∧
    ((3 < w.toNat ∨ 255 < w2.toNat ∨ 255 < w3.toNat) → limits = .next (answered 0x0005 .range [] s)) ∧
    (¬ deviceInRange → device = .next (answered 0x0006 .range [] s)) ∧
    (deviceInRange → device = .next (answered 0x0006 .done [] { s with
      standbyCeiling := w1.toNat, graceCode := w2.toNat,
      counterMode := if w3.toNat = 1 then .wrap else .saturate })) ∧
    ∀ m : ModuleId, w.toNat = m.val →
      let x := moduleAt s m
      (timingInRange → timing = .next (answered 0x0004 .done [w] (setModuleAt m { x with context := { x.context with
        binPeriodCode := w1.toNat, filterShift := w2.toNat, silenceCode := w3.toNat,
        mask := w4.setWidth 5, silenceTimer := silenceStart w3.toNat } } s))) ∧
      (w2.toNat ≤ 255 → w3.toNat ≤ 255 → limits = .next (answered 0x0005 .done [w]
        (setModuleAt m { x with context := { x.context with
          currentLimit := w1.toNat, reflectionLimit := w2.toNat, slopeLimit := w3.toNat } } s)))

/-- R156: GOVERN in STANDBY makes the device GOVERNING when every module with an enabled path has a profile, and else
answers STATE with the lowest that has none; STANDBY in GOVERNING makes it STANDBY; either where the device already
is, STATE. -/
def Obligations.GovernAndStandbyMoveTheDevice : Prop :=
  ∀ s : State, Executing s →
    let lacks := fun m : ModuleId => (moduleAt s m).active = none ∧
      ∃ p, (pathAt s p).enabled = true ∧ (pathAt s p).moduleId = m
    (s.deviceState = .standby →
      exec (.standby []) s = .next (answered 0x000B .state [] s) ∧
      ((∀ m, ¬ lacks m) → exec (.govern []) s = .next (answered 0x000A .done [] { s with deviceState := .governing })) ∧
      (∀ m, lacks m → (∀ n < m, ¬ lacks n) →
        exec (.govern []) s = .next (answered 0x000A .state [BitVec.ofNat 16 m.val] s))) ∧
    (s.deviceState = .governing →
      exec (.govern []) s = .next (answered 0x000A .state [0xFFFF] s) ∧
      exec (.standby []) s = .next (answered 0x000B .done [] { s with deviceState := .standby }))

/-- R169, R171: RUN TESTS is answered RANGE, STATE or BUSY by the first test that fails; an accepted one makes the device
TESTING and draws no answer yet; with TABLE STORE selected the shadow is emptied (at the acceptance: the model's choice,
log entry 11). -/
def Obligations.RunTestsStartsATestRun : Prop :=
  ∀ (w : Word) (s : State), Executing s →
    let run := exec (.runTests [w]) s
    let quiet := (∀ p, (pathAt s p).burst = none) ∧ s.load = none
    let inRange := 1 ≤ w.toNat ∧ w.toNat ≤ 15
    (¬ inRange → run = .next (answered 0x000F .range [] s)) ∧
    (inRange → s.deviceState ≠ .standby → run = .next (answered 0x000F .state [] s)) ∧
    (inRange → s.deviceState = .standby → ¬ quiet → run = .next (answered 0x000F .busy [] s)) ∧
    (inRange → s.deviceState = .standby → quiet → run = .next { s with
      deviceState := .testing, longCommand := .runTests (w.setWidth 4), ringFault := none,
      shadow := if w.getLsbD 0 then .zero else s.shadow,
      shadowState := if w.getLsbD 0 then .empty else s.shadowState })

/-- R175: SOFT RESTART abandons the long command, the load and the scrubs, truncates every burst in path order, empties
the queue and the gap flag, makes the device STANDBY and answers what it abandoned; it keeps the rest. -/
def Obligations.SoftRestartClearsTheWork : Prop :=
  ∀ s : State, Heard s → (s.deviceState = .standby ∨ s.deviceState = .governing ∨ s.deviceState = .testing) →
    ∃ t, exec (.softRestart []) s = .next (answered 0x0010 .done
        (match s.longCommand with
          | .none => [0, 0xFFFF, if s.load.isSome then 1 else 0]
          | .commit _ _ => [1, 6, if s.load.isSome then 1 else 0]
          | .runTests _ => [2, 6, if s.load.isSome then 1 else 0]) t) ∧
      t = { s with
        modules := t.modules, paths := t.paths, forwardOutput := t.forwardOutput, shadow := t.shadow,
        shadowState := t.shadowState, load := none, longCommand := .none, reports := [], reportGap := false,
        deviceState := .standby,
        ringFault := match s.longCommand with
          | .runTests _ => none
          | _ => s.ringFault } ∧
      t.shadow = (match s.longCommand with
        | .runTests tests => if tests.getLsbD 0 then .zero else s.shadow
        | _ => s.shadow) ∧
      t.shadowState = (if s.load.isSome then .incomplete else
        match s.longCommand with
        | .commit _ _ => .ready
        | .runTests tests => if tests.getLsbD 0 then .empty else s.shadowState
        | .none => s.shadowState) ∧
      (∀ p, pathAt t p = { pathAt s p with
        burst := none,
        counters := if (pathAt s p).burst.isSome
          then { (pathAt s p).counters with
            truncated := growCounter s.counterMode (pathAt s p).counters.truncated }
          else (pathAt s p).counters }) ∧
      t.forwardOutput = (allPaths.filter fun p => (pathAt s p).burst.isSome).map (fun p => burstCloseFrame p 0) ∧
      (∀ m, moduleAt t m = { moduleAt s m with scrub := false, accounts := (moduleAt t m).accounts }) ∧
      (BurstsLawful s → AccountsExact s → ∀ m, (moduleAt t m).accounts = ⟨0, 0⟩)

/-! ### Frames and invariants -/

/-- R134, R135, R145 to R147: the part takes each well-formed forward command exactly as it takes the frame that the
command travels in, sorted by that frame's words; so no bit of a layout is dropped. -/
def Obligations.EveryForwardCommandIsTakenAsItsFrame : Prop :=
  ∀ (c : Instr) (f : Frame) (s : State), c.wf = true → forwardFrameOf s.nodeNumber c = some f →
    exec c s = .next (modemPort f (sortForward f)
      (match c with
        | .hardReset _ a b => { s with nsel1 := a, nsel0 := b }
        | _ => s))

/-- R137, R141, R142, R161: the return buffer, the run count and the Report Queue keep their bounds, a frame waits on the
link only while the forward output holds one, and the return lane is idle only while it has nothing to send. -/
def Obligations.EveryStepKeepsTheLinkAndTheQueueWithinBounds : Prop :=
  ∀ s t : State, LinkWithin s → ReportsWithin s → step s = .next t → LinkWithin t ∧ ReportsWithin t

/-- R56, R91: every burst record stays lawful, and each module's accounts stay the sums over its bursts in flight. -/
def Obligations.EveryStepKeepsTheAccountsExact : Prop :=
  ∀ s t : State, BurstsLawful s → AccountsExact s → step s = .next t → BurstsLawful t ∧ AccountsExact t

/-- R26, R37, R39, R47, R48: each window sum stays the sum over the bins, each bin within its limits, the energy grade
the count of thresholds reached, and the thermal grade 7 wherever the module is not FRESH and profiled. -/
def Obligations.EveryStepKeepsTheWindowAndTheGrades : Prop :=
  ∀ s t : State, WindowExact s → EnergyGraded s → ThermallyGraded s → step s = .next t →
    WindowExact t ∧ EnergyGraded t ∧ ThermallyGraded t

/-- R97: every throttle context keeps the law of its state. -/
def Obligations.EveryStepKeepsTheThrottleLaw : Prop :=
  ∀ s t : State, ThrottlesLawful s → step s = .next t → ThrottlesLawful t

/-- R17, R116, R127, R128, R151, R156, R176: loads, long commands, scrubs and device states stay in agreement, and while
the device is GOVERNING every module with an enabled path has a profile. -/
def Obligations.EveryStepKeepsTheOperationsInAgreement : Prop :=
  ∀ s t : State, OperationsAgree s → ScrubsLawful s → GoverningProfiled s → step s = .next t →
    OperationsAgree t ∧ ScrubsLawful t ∧ GoverningProfiled t
end

