-- ==== Sys2Proof/Laws/State.lean ====
section
/-! SUPPORT. One lemma for each field and each update of State: what the update writes, and that it writes nothing
else. -/

namespace Sys2Proof.Machine

section Fields

variable (m : ModuleId) (x : ModuleState) (p : PathId) (y : PathContext) (f : Frame) (r : Report) (c : Condition)
variable (s : State)

/-! ### `setModuleAt` -/

@[simp] theorem setModuleAt_pending : (setModuleAt m x s).pending = s.pending := rfl
@[simp] theorem setModuleAt_droopLine : (setModuleAt m x s).droopLine = s.droopLine := rfl
@[simp] theorem setModuleAt_nsel1 : (setModuleAt m x s).nsel1 = s.nsel1 := rfl
@[simp] theorem setModuleAt_nsel0 : (setModuleAt m x s).nsel0 = s.nsel0 := rfl
@[simp] theorem setModuleAt_nodeNumber : (setModuleAt m x s).nodeNumber = s.nodeNumber := rfl
@[simp] theorem setModuleAt_forwardOutput : (setModuleAt m x s).forwardOutput = s.forwardOutput := rfl
@[simp] theorem setModuleAt_modemWaiting : (setModuleAt m x s).modemWaiting = s.modemWaiting := rfl
@[simp] theorem setModuleAt_returnBuffer : (setModuleAt m x s).returnBuffer = s.returnBuffer := rfl
@[simp] theorem setModuleAt_returnLane : (setModuleAt m x s).returnLane = s.returnLane := rfl
@[simp] theorem setModuleAt_runCount : (setModuleAt m x s).runCount = s.runCount := rfl
@[simp] theorem setModuleAt_paths : (setModuleAt m x s).paths = s.paths := rfl
@[simp] theorem setModuleAt_graceCode : (setModuleAt m x s).graceCode = s.graceCode := rfl
@[simp] theorem setModuleAt_counterMode : (setModuleAt m x s).counterMode = s.counterMode := rfl
@[simp] theorem setModuleAt_standbyCeiling : (setModuleAt m x s).standbyCeiling = s.standbyCeiling := rfl
@[simp] theorem setModuleAt_shadow : (setModuleAt m x s).shadow = s.shadow := rfl
@[simp] theorem setModuleAt_shadowState : (setModuleAt m x s).shadowState = s.shadowState := rfl
@[simp] theorem setModuleAt_load : (setModuleAt m x s).load = s.load := rfl
@[simp] theorem setModuleAt_longCommand : (setModuleAt m x s).longCommand = s.longCommand := rfl
@[simp] theorem setModuleAt_status : (setModuleAt m x s).status = s.status := rfl
@[simp] theorem setModuleAt_reports : (setModuleAt m x s).reports = s.reports := rfl
@[simp] theorem setModuleAt_reportGap : (setModuleAt m x s).reportGap = s.reportGap := rfl
@[simp] theorem setModuleAt_deviceState : (setModuleAt m x s).deviceState = s.deviceState := rfl
@[simp] theorem setModuleAt_testResults : (setModuleAt m x s).testResults = s.testResults := rfl
@[simp] theorem setModuleAt_lockdownCause : (setModuleAt m x s).lockdownCause = s.lockdownCause := rfl
@[simp] theorem setModuleAt_ringFault : (setModuleAt m x s).ringFault = s.ringFault := rfl
@[simp] theorem setModuleAt_modules (m : ModuleId) (x : ModuleState) (s : State) :
    (setModuleAt m x s).modules = s.modules.set m.val x m.isLt := rfl

/-! ### `setPathAt` -/

@[simp] theorem setPathAt_pending : (setPathAt p y s).pending = s.pending := rfl
@[simp] theorem setPathAt_droopLine : (setPathAt p y s).droopLine = s.droopLine := rfl
@[simp] theorem setPathAt_nsel1 : (setPathAt p y s).nsel1 = s.nsel1 := rfl
@[simp] theorem setPathAt_nsel0 : (setPathAt p y s).nsel0 = s.nsel0 := rfl
@[simp] theorem setPathAt_nodeNumber : (setPathAt p y s).nodeNumber = s.nodeNumber := rfl
@[simp] theorem setPathAt_forwardOutput : (setPathAt p y s).forwardOutput = s.forwardOutput := rfl
@[simp] theorem setPathAt_modemWaiting : (setPathAt p y s).modemWaiting = s.modemWaiting := rfl
@[simp] theorem setPathAt_returnBuffer : (setPathAt p y s).returnBuffer = s.returnBuffer := rfl
@[simp] theorem setPathAt_returnLane : (setPathAt p y s).returnLane = s.returnLane := rfl
@[simp] theorem setPathAt_runCount : (setPathAt p y s).runCount = s.runCount := rfl
@[simp] theorem setPathAt_graceCode : (setPathAt p y s).graceCode = s.graceCode := rfl
@[simp] theorem setPathAt_counterMode : (setPathAt p y s).counterMode = s.counterMode := rfl
@[simp] theorem setPathAt_standbyCeiling : (setPathAt p y s).standbyCeiling = s.standbyCeiling := rfl
@[simp] theorem setPathAt_modules : (setPathAt p y s).modules = s.modules := rfl
@[simp] theorem setPathAt_shadow : (setPathAt p y s).shadow = s.shadow := rfl
@[simp] theorem setPathAt_shadowState : (setPathAt p y s).shadowState = s.shadowState := rfl
@[simp] theorem setPathAt_load : (setPathAt p y s).load = s.load := rfl
@[simp] theorem setPathAt_longCommand : (setPathAt p y s).longCommand = s.longCommand := rfl
@[simp] theorem setPathAt_status : (setPathAt p y s).status = s.status := rfl
@[simp] theorem setPathAt_reports : (setPathAt p y s).reports = s.reports := rfl
@[simp] theorem setPathAt_reportGap : (setPathAt p y s).reportGap = s.reportGap := rfl
@[simp] theorem setPathAt_deviceState : (setPathAt p y s).deviceState = s.deviceState := rfl
@[simp] theorem setPathAt_testResults : (setPathAt p y s).testResults = s.testResults := rfl
@[simp] theorem setPathAt_lockdownCause : (setPathAt p y s).lockdownCause = s.lockdownCause := rfl
@[simp] theorem setPathAt_ringFault : (setPathAt p y s).ringFault = s.ringFault := rfl
@[simp] theorem setPathAt_paths (p : PathId) (x : PathContext) (s : State) :
    (setPathAt p x s).paths = s.paths.set p.val x p.isLt := rfl

/-! ### `send` -/

@[simp] theorem send_pending : (send f s).pending = s.pending := rfl
@[simp] theorem send_droopLine : (send f s).droopLine = s.droopLine := rfl
@[simp] theorem send_nsel1 : (send f s).nsel1 = s.nsel1 := rfl
@[simp] theorem send_nsel0 : (send f s).nsel0 = s.nsel0 := rfl
@[simp] theorem send_nodeNumber : (send f s).nodeNumber = s.nodeNumber := rfl
@[simp] theorem send_modemWaiting : (send f s).modemWaiting = s.modemWaiting := rfl
@[simp] theorem send_returnBuffer : (send f s).returnBuffer = s.returnBuffer := rfl
@[simp] theorem send_returnLane : (send f s).returnLane = s.returnLane := rfl
@[simp] theorem send_runCount : (send f s).runCount = s.runCount := rfl
@[simp] theorem send_paths : (send f s).paths = s.paths := rfl
@[simp] theorem send_graceCode : (send f s).graceCode = s.graceCode := rfl
@[simp] theorem send_counterMode : (send f s).counterMode = s.counterMode := rfl
@[simp] theorem send_standbyCeiling : (send f s).standbyCeiling = s.standbyCeiling := rfl
@[simp] theorem send_modules : (send f s).modules = s.modules := rfl
@[simp] theorem send_shadow : (send f s).shadow = s.shadow := rfl
@[simp] theorem send_shadowState : (send f s).shadowState = s.shadowState := rfl
@[simp] theorem send_load : (send f s).load = s.load := rfl
@[simp] theorem send_longCommand : (send f s).longCommand = s.longCommand := rfl
@[simp] theorem send_status : (send f s).status = s.status := rfl
@[simp] theorem send_reports : (send f s).reports = s.reports := rfl
@[simp] theorem send_reportGap : (send f s).reportGap = s.reportGap := rfl
@[simp] theorem send_deviceState : (send f s).deviceState = s.deviceState := rfl
@[simp] theorem send_testResults : (send f s).testResults = s.testResults := rfl
@[simp] theorem send_lockdownCause : (send f s).lockdownCause = s.lockdownCause := rfl
@[simp] theorem send_ringFault : (send f s).ringFault = s.ringFault := rfl
@[simp] theorem send_forwardOutput (f : Frame) (s : State) : (send f s).forwardOutput = s.forwardOutput ++ [f] := rfl

/-! ### `addCondition` -/

@[simp] theorem addCondition_pending : (addCondition c s).pending = s.pending := rfl
@[simp] theorem addCondition_droopLine : (addCondition c s).droopLine = s.droopLine := rfl
@[simp] theorem addCondition_nsel1 : (addCondition c s).nsel1 = s.nsel1 := rfl
@[simp] theorem addCondition_nsel0 : (addCondition c s).nsel0 = s.nsel0 := rfl
@[simp] theorem addCondition_nodeNumber : (addCondition c s).nodeNumber = s.nodeNumber := rfl
@[simp] theorem addCondition_forwardOutput : (addCondition c s).forwardOutput = s.forwardOutput := rfl
@[simp] theorem addCondition_modemWaiting : (addCondition c s).modemWaiting = s.modemWaiting := rfl
@[simp] theorem addCondition_returnBuffer : (addCondition c s).returnBuffer = s.returnBuffer := rfl
@[simp] theorem addCondition_returnLane : (addCondition c s).returnLane = s.returnLane := rfl
@[simp] theorem addCondition_runCount : (addCondition c s).runCount = s.runCount := rfl
@[simp] theorem addCondition_paths : (addCondition c s).paths = s.paths := rfl
@[simp] theorem addCondition_graceCode : (addCondition c s).graceCode = s.graceCode := rfl
@[simp] theorem addCondition_counterMode : (addCondition c s).counterMode = s.counterMode := rfl
@[simp] theorem addCondition_standbyCeiling : (addCondition c s).standbyCeiling = s.standbyCeiling := rfl
@[simp] theorem addCondition_modules : (addCondition c s).modules = s.modules := rfl
@[simp] theorem addCondition_shadow : (addCondition c s).shadow = s.shadow := rfl
@[simp] theorem addCondition_shadowState : (addCondition c s).shadowState = s.shadowState := rfl
@[simp] theorem addCondition_load : (addCondition c s).load = s.load := rfl
@[simp] theorem addCondition_longCommand : (addCondition c s).longCommand = s.longCommand := rfl
@[simp] theorem addCondition_reports : (addCondition c s).reports = s.reports := rfl
@[simp] theorem addCondition_reportGap : (addCondition c s).reportGap = s.reportGap := rfl
@[simp] theorem addCondition_deviceState : (addCondition c s).deviceState = s.deviceState := rfl
@[simp] theorem addCondition_testResults : (addCondition c s).testResults = s.testResults := rfl
@[simp] theorem addCondition_lockdownCause : (addCondition c s).lockdownCause = s.lockdownCause := rfl
@[simp] theorem addCondition_ringFault : (addCondition c s).ringFault = s.ringFault := rfl
@[simp] theorem addCondition_status (c : Condition) (s : State) :
    (addCondition c s).status = s.status ||| (1#5 <<< conditionBit c) := rfl

/-! ### `reportLost` -/

@[simp] theorem reportLost_pending : (reportLost s).pending = s.pending := rfl
@[simp] theorem reportLost_droopLine : (reportLost s).droopLine = s.droopLine := rfl
@[simp] theorem reportLost_nsel1 : (reportLost s).nsel1 = s.nsel1 := rfl
@[simp] theorem reportLost_nsel0 : (reportLost s).nsel0 = s.nsel0 := rfl
@[simp] theorem reportLost_nodeNumber : (reportLost s).nodeNumber = s.nodeNumber := rfl
@[simp] theorem reportLost_forwardOutput : (reportLost s).forwardOutput = s.forwardOutput := rfl
@[simp] theorem reportLost_modemWaiting : (reportLost s).modemWaiting = s.modemWaiting := rfl
@[simp] theorem reportLost_returnBuffer : (reportLost s).returnBuffer = s.returnBuffer := rfl
@[simp] theorem reportLost_returnLane : (reportLost s).returnLane = s.returnLane := rfl
@[simp] theorem reportLost_runCount : (reportLost s).runCount = s.runCount := rfl
@[simp] theorem reportLost_paths : (reportLost s).paths = s.paths := rfl
@[simp] theorem reportLost_graceCode : (reportLost s).graceCode = s.graceCode := rfl
@[simp] theorem reportLost_counterMode : (reportLost s).counterMode = s.counterMode := rfl
@[simp] theorem reportLost_standbyCeiling : (reportLost s).standbyCeiling = s.standbyCeiling := rfl
@[simp] theorem reportLost_modules : (reportLost s).modules = s.modules := rfl
@[simp] theorem reportLost_shadow : (reportLost s).shadow = s.shadow := rfl
@[simp] theorem reportLost_shadowState : (reportLost s).shadowState = s.shadowState := rfl
@[simp] theorem reportLost_load : (reportLost s).load = s.load := rfl
@[simp] theorem reportLost_longCommand : (reportLost s).longCommand = s.longCommand := rfl
@[simp] theorem reportLost_reports : (reportLost s).reports = s.reports := rfl
@[simp] theorem reportLost_deviceState : (reportLost s).deviceState = s.deviceState := rfl
@[simp] theorem reportLost_testResults : (reportLost s).testResults = s.testResults := rfl
@[simp] theorem reportLost_lockdownCause : (reportLost s).lockdownCause = s.lockdownCause := rfl
@[simp] theorem reportLost_ringFault : (reportLost s).ringFault = s.ringFault := rfl
@[simp] theorem reportLost_status (s : State) :
    (reportLost s).status = s.status ||| (1#5 <<< conditionBit .reportOverflow) := rfl
@[simp] theorem reportLost_reportGap (s : State) : (reportLost s).reportGap = true := rfl

end Fields

/-! ### The updates of one part of a module or of a path, as updates of the whole -/

@[simp] theorem setContext_eq (m : ModuleId) (x : ModuleContext) (s : State) :
    setContext m x s = setModuleAt m { moduleAt s m with context := x } s := rfl
@[simp] theorem setRing_eq (m : ModuleId) (x : Ring) (s : State) :
    setRing m x s = setModuleAt m { moduleAt s m with ring := x } s := rfl
@[simp] theorem setThrottle_eq (m : ModuleId) (x : ThrottleContext) (s : State) :
    setThrottle m x s = setModuleAt m { moduleAt s m with throttle := x } s := rfl
@[simp] theorem setAccounts_eq (m : ModuleId) (x : Accounts) (s : State) :
    setAccounts m x s = setModuleAt m { moduleAt s m with accounts := x } s := rfl
@[simp] theorem setActive_eq (m : ModuleId) (x : Option ActiveProfile) (s : State) :
    setActive m x s = setModuleAt m { moduleAt s m with active := x } s := rfl
@[simp] theorem setScrub_eq (m : ModuleId) (x : Bool) (s : State) :
    setScrub m x s = setModuleAt m { moduleAt s m with scrub := x } s := rfl
@[simp] theorem setBurst_eq (p : PathId) (b : Option BurstRecord) (s : State) :
    setBurst p b s = setPathAt p { pathAt s p with burst := b } s := rfl
@[simp] theorem count_eq (p : PathId) (n : CounterName) (s : State) :
    count p n s = setPathAt p { pathAt s p with counters := growIn s.counterMode (pathAt s p).counters n } s := rfl

/-! ### Reading a module or a path after an update -/

@[simp] theorem moduleAt_setModuleAt_same (m : ModuleId) (x : ModuleState) (s : State) :
    moduleAt (setModuleAt m x s) m = x := by
  simp [moduleAt]

theorem moduleAt_setModuleAt_other {m n : ModuleId} (h : n ≠ m) (x : ModuleState) (s : State) :
    moduleAt (setModuleAt m x s) n = moduleAt s n := by
  have hv : m.val ≠ n.val := fun e => h (Fin.ext e.symm)
  simp [moduleAt, Vector.getElem_set_ne _ _ hv]

theorem moduleAt_setModuleAt (m n : ModuleId) (x : ModuleState) (s : State) :
    moduleAt (setModuleAt m x s) n = if n = m then x else moduleAt s n := by
  split
  · next h => subst h; simp
  · next h => exact moduleAt_setModuleAt_other h x s

@[simp] theorem pathAt_setPathAt_same (p : PathId) (x : PathContext) (s : State) :
    pathAt (setPathAt p x s) p = x := by
  simp [pathAt]

theorem pathAt_setPathAt_other {p q : PathId} (h : q ≠ p) (x : PathContext) (s : State) :
    pathAt (setPathAt p x s) q = pathAt s q := by
  have hv : p.val ≠ q.val := fun e => h (Fin.ext e.symm)
  simp [pathAt, Vector.getElem_set_ne _ _ hv]

theorem pathAt_setPathAt (p q : PathId) (x : PathContext) (s : State) :
    pathAt (setPathAt p x s) q = if q = p then x else pathAt s q := by
  split
  · next h => subst h; simp
  · next h => exact pathAt_setPathAt_other h x s

@[simp] theorem setModuleAt_twice (m : ModuleId) (x y : ModuleState) (s : State) :
    setModuleAt m x (setModuleAt m y s) = setModuleAt m x s := by
  simp [setModuleAt]

@[simp] theorem setPathAt_twice (p : PathId) (x y : PathContext) (s : State) :
    setPathAt p x (setPathAt p y s) = setPathAt p x s := by
  simp [setPathAt]

@[simp] theorem pathAt_setModuleAt (m : ModuleId) (x : ModuleState) (s : State) (p : PathId) :
    pathAt (setModuleAt m x s) p = pathAt s p := rfl
@[simp] theorem moduleAt_setPathAt (p : PathId) (x : PathContext) (s : State) (m : ModuleId) :
    moduleAt (setPathAt p x s) m = moduleAt s m := rfl
@[simp] theorem moduleAt_send (f : Frame) (s : State) (m : ModuleId) : moduleAt (send f s) m = moduleAt s m := rfl
@[simp] theorem pathAt_send (f : Frame) (s : State) (p : PathId) : pathAt (send f s) p = pathAt s p := rfl
@[simp] theorem moduleAt_addCondition (c : Condition) (s : State) (m : ModuleId) : moduleAt (addCondition c s) m = moduleAt s m := rfl
@[simp] theorem pathAt_addCondition (c : Condition) (s : State) (p : PathId) : pathAt (addCondition c s) p = pathAt s p := rfl
@[simp] theorem moduleAt_reportLost (s : State) (m : ModuleId) : moduleAt (reportLost s) m = moduleAt s m := rfl
@[simp] theorem pathAt_reportLost (s : State) (p : PathId) : pathAt (reportLost s) p = pathAt s p := rfl

/-! ### The arbiter's choice (R142): it writes the buffer, the lane, the run count, the queue and the gap flag only -/

/-- The whole effect of a choice: five fields at most. -/
theorem mergeChoice_writes (s : State) :
    mergeChoice s = { s with
      returnBuffer := (mergeChoice s).returnBuffer, returnLane := (mergeChoice s).returnLane,
      runCount := (mergeChoice s).runCount, reports := (mergeChoice s).reports,
      reportGap := (mergeChoice s).reportGap } := by
  unfold mergeChoice
  repeat' split
  all_goals rfl

theorem chooseIfIdle_busy {s : State} (h : s.returnLane.isSome = true) : chooseIfIdle s = s := by
  unfold chooseIfIdle
  rw [Option.isNone_eq_false_iff.mpr h]
  rfl

theorem chooseIfIdle_idle {s : State} (h : s.returnLane = none) : chooseIfIdle s = mergeChoice s := by
  unfold chooseIfIdle
  rw [h]
  rfl

theorem chooseIfIdle_writes (s : State) :
    chooseIfIdle s = { s with
      returnBuffer := (chooseIfIdle s).returnBuffer, returnLane := (chooseIfIdle s).returnLane,
      runCount := (chooseIfIdle s).runCount, reports := (chooseIfIdle s).reports,
      reportGap := (chooseIfIdle s).reportGap } := by
  cases h : s.returnLane with
  | none => rw [chooseIfIdle_idle h]; exact mergeChoice_writes s
  | some f => rw [chooseIfIdle_busy (by rw [h]; rfl)]

/-! ### `enqueue` (R160): with the choice on an idle lane -/

theorem enqueue_writes (r : Report) (s : State) :
    enqueue r s = { s with
      returnBuffer := (enqueue r s).returnBuffer, returnLane := (enqueue r s).returnLane,
      runCount := (enqueue r s).runCount, reports := (enqueue r s).reports, reportGap := (enqueue r s).reportGap } :=
  chooseIfIdle_writes _

/-- On a busy lane a report waits in the queue. -/
theorem enqueue_busy {s : State} (r : Report) (h : s.returnLane.isSome = true) :
    enqueue r s = { s with reports := s.reports ++ [r] } := chooseIfIdle_busy h

/-- On an idle lane with nothing waiting a report goes out at once. -/
theorem enqueue_idle {s : State} (r : Report) (h : s.returnLane = none) (hb : s.returnBuffer = [])
    (hr : s.reports = []) : enqueue r s = chooseReport r [] s := by
  simp [enqueue, chooseIfIdle, mergeChoice, chooseReport, h, hb, hr]

/-! ### `offer` (R161): it writes what a choice writes, and the latched device status -/

/-- The whole effect of `offer`: six fields at most. -/
theorem offer_writes (r : Report) (s : State) :
    offer r s = { s with
      returnBuffer := (offer r s).returnBuffer, returnLane := (offer r s).returnLane, runCount := (offer r s).runCount,
      reports := (offer r s).reports, reportGap := (offer r s).reportGap, status := (offer r s).status } := by
  unfold offer
  repeat' split
  all_goals first
    | rfl
    | (rw [enqueue_writes]; done)
    | (rw [enqueue_writes]; rfl)

@[simp] theorem offer_pending (r : Report) (s : State) : (offer r s).pending = s.pending := by rw [offer_writes]
@[simp] theorem offer_droopLine (r : Report) (s : State) : (offer r s).droopLine = s.droopLine := by rw [offer_writes]
@[simp] theorem offer_nsel1 (r : Report) (s : State) : (offer r s).nsel1 = s.nsel1 := by rw [offer_writes]
@[simp] theorem offer_nsel0 (r : Report) (s : State) : (offer r s).nsel0 = s.nsel0 := by rw [offer_writes]
@[simp] theorem offer_nodeNumber (r : Report) (s : State) : (offer r s).nodeNumber = s.nodeNumber := by rw [offer_writes]
@[simp] theorem offer_forwardOutput (r : Report) (s : State) : (offer r s).forwardOutput = s.forwardOutput := by rw [offer_writes]
@[simp] theorem offer_modemWaiting (r : Report) (s : State) : (offer r s).modemWaiting = s.modemWaiting := by rw [offer_writes]
@[simp] theorem offer_paths (r : Report) (s : State) : (offer r s).paths = s.paths := by rw [offer_writes]
@[simp] theorem offer_graceCode (r : Report) (s : State) : (offer r s).graceCode = s.graceCode := by rw [offer_writes]
@[simp] theorem offer_counterMode (r : Report) (s : State) : (offer r s).counterMode = s.counterMode := by rw [offer_writes]
@[simp] theorem offer_standbyCeiling (r : Report) (s : State) : (offer r s).standbyCeiling = s.standbyCeiling := by rw [offer_writes]
@[simp] theorem offer_modules (r : Report) (s : State) : (offer r s).modules = s.modules := by rw [offer_writes]
@[simp] theorem offer_shadow (r : Report) (s : State) : (offer r s).shadow = s.shadow := by rw [offer_writes]
@[simp] theorem offer_shadowState (r : Report) (s : State) : (offer r s).shadowState = s.shadowState := by rw [offer_writes]
@[simp] theorem offer_load (r : Report) (s : State) : (offer r s).load = s.load := by rw [offer_writes]
@[simp] theorem offer_longCommand (r : Report) (s : State) : (offer r s).longCommand = s.longCommand := by rw [offer_writes]
@[simp] theorem offer_deviceState (r : Report) (s : State) : (offer r s).deviceState = s.deviceState := by rw [offer_writes]
@[simp] theorem offer_testResults (r : Report) (s : State) : (offer r s).testResults = s.testResults := by rw [offer_writes]
@[simp] theorem offer_lockdownCause (r : Report) (s : State) : (offer r s).lockdownCause = s.lockdownCause := by rw [offer_writes]
@[simp] theorem offer_ringFault (r : Report) (s : State) : (offer r s).ringFault = s.ringFault := by rw [offer_writes]
@[simp] theorem moduleAt_offer (r : Report) (s : State) (m : ModuleId) : moduleAt (offer r s) m = moduleAt s m := by
  simp [moduleAt]
@[simp] theorem pathAt_offer (r : Report) (s : State) (p : PathId) : pathAt (offer r s) p = pathAt s p := by
  simp [pathAt]

/-! ### Updates that commute with `offer` -/

/-- Two states agree on all that an entering report reads or writes. -/
structure SameOutbound (s u : State) : Prop where
  buffer : u.returnBuffer = s.returnBuffer
  lane : u.returnLane = s.returnLane
  run : u.runCount = s.runCount
  reports : u.reports = s.reports
  gap : u.reportGap = s.reportGap
  status : u.status = s.status
  node : u.nodeNumber = s.nodeNumber

theorem mergeChoice_same {s u : State} (h : SameOutbound s u) : SameOutbound (mergeChoice s) (mergeChoice u) := by
  have hu := h
  obtain ⟨hb, _, hn, hr, hg, _, hk⟩ := hu
  unfold mergeChoice chooseRadio chooseReport
  rw [hb, hr, hn, hg, hk]
  repeat' split
  all_goals constructor <;> first | rfl | exact h.lane | exact h.status

theorem chooseIfIdle_same {s u : State} (h : SameOutbound s u) : SameOutbound (chooseIfIdle s) (chooseIfIdle u) := by
  unfold chooseIfIdle
  rw [h.lane]
  split
  · exact mergeChoice_same h
  · exact h

theorem enqueue_same (r : Report) {s u : State} (h : SameOutbound s u) : SameOutbound (enqueue r s) (enqueue r u) := by
  unfold enqueue
  exact chooseIfIdle_same { h with reports := congrArg (· ++ [r]) h.reports }

theorem reportLost_same {s u : State} (h : SameOutbound s u) : SameOutbound (reportLost s) (reportLost u) :=
  { h with gap := rfl, status := congrArg (· ||| _) h.status }

theorem offer_same (r : Report) {s u : State} (h : SameOutbound s u) : SameOutbound (offer r s) (offer r u) := by
  unfold offer
  rw [h.reports]
  repeat' split
  all_goals first
    | exact enqueue_same r h
    | exact reportLost_same h
    | exact enqueue_same r (reportLost_same { h with reports := rfl })

/-- An update that neither reads nor writes what an entering report reads or writes commutes with the report's entry. -/
theorem offer_commutes (r : Report) (g : State → State) (hs : ∀ s, SameOutbound s (g s))
    (hg : ∀ s b l n rs gap st,
      g { s with returnBuffer := b, returnLane := l, runCount := n, reports := rs, reportGap := gap, status := st } =
        { g s with returnBuffer := b, returnLane := l, runCount := n, reports := rs, reportGap := gap, status := st })
    (s : State) : offer r (g s) = g (offer r s) := by
  obtain ⟨hb, hl, hn, hr, hp, ht, _⟩ := offer_same r (hs s)
  rw [offer_writes r (g s), hb, hl, hn, hr, hp, ht, ← hg, ← offer_writes]

/-! ### The order of updates: paths outermost, then modules, then the forward output, then the reports -/

@[simp] theorem setModuleAt_setPathAt (m : ModuleId) (x : ModuleState) (p : PathId) (y : PathContext) (s : State) :
    setModuleAt m x (setPathAt p y s) = setPathAt p y (setModuleAt m x s) := rfl
@[simp] theorem send_setPathAt (f : Frame) (p : PathId) (y : PathContext) (s : State) :
    send f (setPathAt p y s) = setPathAt p y (send f s) := rfl
@[simp] theorem send_setModuleAt (f : Frame) (m : ModuleId) (x : ModuleState) (s : State) :
    send f (setModuleAt m x s) = setModuleAt m x (send f s) := rfl

@[simp] theorem offer_setPathAt (r : Report) (p : PathId) (y : PathContext) (s : State) :
    offer r (setPathAt p y s) = setPathAt p y (offer r s) :=
  offer_commutes r (setPathAt p y) (fun _ => ⟨rfl, rfl, rfl, rfl, rfl, rfl, rfl⟩) (fun _ _ _ _ _ _ _ => rfl) s
@[simp] theorem offer_setModuleAt (r : Report) (m : ModuleId) (x : ModuleState) (s : State) :
    offer r (setModuleAt m x s) = setModuleAt m x (offer r s) :=
  offer_commutes r (setModuleAt m x) (fun _ => ⟨rfl, rfl, rfl, rfl, rfl, rfl, rfl⟩) (fun _ _ _ _ _ _ _ => rfl) s
@[simp] theorem offer_send (r : Report) (f : Frame) (s : State) : offer r (send f s) = send f (offer r s) :=
  offer_commutes r (send f) (fun _ => ⟨rfl, rfl, rfl, rfl, rfl, rfl, rfl⟩) (fun _ _ _ _ _ _ _ => rfl) s

/-! ### Writing back what is there, and two entries -/

@[simp] theorem setModuleAt_self (m : ModuleId) (s : State) : setModuleAt m (moduleAt s m) s = s := by
  simp [setModuleAt, moduleAt]
@[simp] theorem setPathAt_self (p : PathId) (s : State) : setPathAt p (pathAt s p) s = s := by
  simp [setPathAt, pathAt]

theorem setModuleAt_of_eq {m : ModuleId} {x : ModuleState} {s : State} (h : moduleAt s m = x) : setModuleAt m x s = s :=
  h ▸ setModuleAt_self m s
theorem setPathAt_of_eq {p : PathId} {x : PathContext} {s : State} (h : pathAt s p = x) : setPathAt p x s = s :=
  h ▸ setPathAt_self p s

theorem modules_ext {s t : State} (h : ∀ m, moduleAt s m = moduleAt t m) : s.modules = t.modules :=
  Vector.ext fun i hi => h ⟨i, hi⟩
theorem paths_ext {s t : State} (h : ∀ p, pathAt s p = pathAt t p) : s.paths = t.paths :=
  Vector.ext fun i hi => h ⟨i, hi⟩

end Sys2Proof.Machine
end

