-- ==== Sys2Proof/Laws/Bursts.lean ====
section
/-! SUPPORT. What lowering, truncating, a clamp entry and a firing can do to the part (R65, R70, R99 to R105): which
fields of State they write, and what of each module and path they leave. -/

namespace Sys2Proof.Machine

/-! ### Shapes of change -/

/-- Nothing but the path contexts, the modules and the forward output changes. -/
def OnlyBursts (s t : State) : Prop :=
  t = { s with paths := t.paths, modules := t.modules, forwardOutput := t.forwardOutput }

/-- Nothing but those, the latched device status and what a report's entry writes (the Report Queue, its gap flag and,
by the arbiter's choice on an idle lane, the lane, the buffer and the run count) changes. -/
def OnlyBurstsAndReports (s t : State) : Prop :=
  t = { s with
    paths := t.paths, modules := t.modules, forwardOutput := t.forwardOutput, returnBuffer := t.returnBuffer,
    returnLane := t.returnLane, runCount := t.runCount, reports := t.reports, reportGap := t.reportGap,
    status := t.status }

theorem OnlyBursts.refl (s : State) : OnlyBursts s s := rfl

theorem OnlyBursts.trans {s t u : State} (h1 : OnlyBursts s t) (h2 : OnlyBursts t u) : OnlyBursts s u := by
  unfold OnlyBursts at *
  rw [h1] at h2
  exact h2

theorem OnlyBurstsAndReports.refl (s : State) : OnlyBurstsAndReports s s := rfl

theorem OnlyBurstsAndReports.trans {s t u : State} (h1 : OnlyBurstsAndReports s t) (h2 : OnlyBurstsAndReports t u) :
    OnlyBurstsAndReports s u := by
  unfold OnlyBurstsAndReports at *
  rw [h1] at h2
  exact h2

theorem OnlyBursts.withReports {s t : State} (h : OnlyBursts s t) : OnlyBurstsAndReports s t := by
  unfold OnlyBursts OnlyBurstsAndReports at *
  rw [h]

/-- A module keeps everything but its weight in flight. -/
def KeepsButInFlight (x y : ModuleState) : Prop :=
  y = { x with accounts := { x.accounts with inFlight := y.accounts.inFlight } }

theorem KeepsButInFlight.trans {x y z : ModuleState} (h1 : KeepsButInFlight x y) (h2 : KeepsButInFlight y z) :
    KeepsButInFlight x z := by
  unfold KeepsButInFlight at *
  rw [h1] at h2
  exact h2

/-! ### Lowering (R65) -/

theorem lowerBurst_idle {p : PathId} {s : State} (h : (pathAt s p).burst = none) (n : Nat) : lowerBurst p n s = s := by
  simp [lowerBurst, h]

/-- The record that a lowering leaves. -/
def loweredRecord (b : BurstRecord) (n w : Nat) : BurstRecord :=
  { b with granted := .code n, weight := w, backoff := some (b.requested - n), lowered := true }

/-- The whole effect of a lowering: the path's record and perhaps its counter, the weight in flight, one LEVEL STEP. -/
theorem lowerBurst_burst {p : PathId} {s : State} {b : BurstRecord} (h : (pathAt s p).burst = some b) (n : Nat) :
    lowerBurst p n s =
      setPathAt p { pathAt s p with
          burst := some (loweredRecord b n (weightOn s (pathAt s p).moduleId n)),
          counters := if b.lowered then (pathAt s p).counters
            else growIn s.counterMode (pathAt s p).counters .lowered }
        (setModuleAt (pathAt s p).moduleId
          { moduleAt s (pathAt s p).moduleId with accounts :=
              { (moduleAt s (pathAt s p).moduleId).accounts with
                inFlight := (moduleAt s (pathAt s p).moduleId).accounts.inFlight +
                  weightOn s (pathAt s p).moduleId n - b.weight } }
          (send (levelStepFrame p 0 (BitVec.ofNat 16 n)) s)) := by
  cases hl : b.lowered <;> simp [lowerBurst, h, hl, reweigh, loweredRecord]

theorem lowerBurst_writes (p : PathId) (n : Nat) (s : State) : OnlyBursts s (lowerBurst p n s) := by
  cases h : (pathAt s p).burst with
  | none => rw [lowerBurst_idle h]; exact .refl s
  | some b => rw [lowerBurst_burst h]; rfl

theorem lowerBurst_module (p : PathId) (n : Nat) (s : State) (m : ModuleId) :
    KeepsButInFlight (moduleAt s m) (moduleAt (lowerBurst p n s) m) := by
  cases h : (pathAt s p).burst with
  | none => rw [lowerBurst_idle h]; rfl
  | some b =>
    rw [lowerBurst_burst h, moduleAt_setPathAt, moduleAt_setModuleAt]
    split
    · next e => subst e; rfl
    · rfl

theorem lowerBurst_otherModule {p : PathId} {s : State} {m : ModuleId} (n : Nat) (h : m ≠ (pathAt s p).moduleId) :
    moduleAt (lowerBurst p n s) m = moduleAt s m := by
  cases hb : (pathAt s p).burst with
  | none => rw [lowerBurst_idle hb]
  | some b => rw [lowerBurst_burst hb, moduleAt_setPathAt, moduleAt_setModuleAt_other h, moduleAt_send]

theorem lowerBurst_otherPath {p q : PathId} (h : q ≠ p) (n : Nat) (s : State) :
    pathAt (lowerBurst p n s) q = pathAt s q := by
  cases hb : (pathAt s p).burst with
  | none => rw [lowerBurst_idle hb]
  | some b => rw [lowerBurst_burst hb, pathAt_setPathAt_other h, pathAt_setModuleAt, pathAt_send]

/-! ### Truncation (R70) -/

theorem truncateBurst_idle {p : PathId} {s : State} (h : (pathAt s p).burst = none) : truncateBurst p s = s := by
  simp [truncateBurst, h]

theorem leaveAccounts_writes (m : ModuleId) (b : BurstRecord) (s : State) : OnlyBursts s (leaveAccounts m b s) := by
  unfold leaveAccounts
  cases b.granted <;> rfl

theorem truncateBurst_writes (p : PathId) (s : State) : OnlyBursts s (truncateBurst p s) := by
  cases h : (pathAt s p).burst with
  | none => rw [truncateBurst_idle h]; exact .refl s
  | some b =>
    have e : truncateBurst p s = count p .truncated (send (burstCloseFrame p 0) (endBurst p b s)) := by
      simp only [truncateBurst, h]
    rw [e]
    exact (leaveAccounts_writes (pathAt s p).moduleId b s).trans rfl

theorem truncateAll_writes (s : State) : OnlyBursts s (truncateAll s) := by
  unfold truncateAll
  generalize allPaths = ps
  induction ps generalizing s with
  | nil => exact .refl s
  | cons p ps ih => exact (truncateBurst_writes p s).trans (ih (truncateBurst p s))

/-! ### Clamp entry (R105) -/

/-- A clamp entry does to a path either nothing or one lowering. -/
theorem clampPath_cases (m : ModuleId) (p : PathId) (s : State) :
    clampPath m p s = s ∨ ((pathAt s p).moduleId = m ∧ ∃ n, clampPath m p s = lowerBurst p n s) := by
  unfold clampPath
  dsimp only
  split
  · exact .inl rfl
  · split
    · exact .inl rfl
    · split
      · next h => exact .inr ⟨h.1, _, rfl⟩
      · exact .inl rfl

theorem clampPath_writes (m : ModuleId) (p : PathId) (s : State) : OnlyBursts s (clampPath m p s) := by
  rcases clampPath_cases m p s with h | ⟨_, n, h⟩
  · rw [h]; exact .refl s
  · rw [h]; exact lowerBurst_writes p n s

theorem clampPath_module (m : ModuleId) (p : PathId) (s : State) (n : ModuleId) :
    KeepsButInFlight (moduleAt s n) (moduleAt (clampPath m p s) n) := by
  rcases clampPath_cases m p s with h | ⟨_, k, h⟩
  · rw [h]; rfl
  · rw [h]; exact lowerBurst_module p k s n

theorem clampPath_otherModule {m n : ModuleId} (hn : n ≠ m) (p : PathId) (s : State) :
    moduleAt (clampPath m p s) n = moduleAt s n := by
  rcases clampPath_cases m p s with h | ⟨hm, k, h⟩
  · rw [h]
  · rw [h]; exact lowerBurst_otherModule k (hm ▸ hn)

theorem clampPath_otherPath {p q : PathId} (hq : q ≠ p) (m : ModuleId) (s : State) :
    pathAt (clampPath m p s) q = pathAt s q := by
  rcases clampPath_cases m p s with h | ⟨_, k, h⟩
  · rw [h]
  · rw [h]; exact lowerBurst_otherPath hq k s

theorem clampEntry_writes (m : ModuleId) (s : State) : OnlyBursts s (clampEntry m s) := by
  unfold clampEntry
  generalize allPaths = ps
  induction ps generalizing s with
  | nil => exact .refl s
  | cons p ps ih => exact (clampPath_writes m p s).trans (ih (clampPath m p s))

theorem clampEntry_module (m : ModuleId) (s : State) (n : ModuleId) :
    KeepsButInFlight (moduleAt s n) (moduleAt (clampEntry m s) n) := by
  unfold clampEntry
  generalize allPaths = ps
  induction ps generalizing s with
  | nil => rfl
  | cons p ps ih => exact (clampPath_module m p s n).trans (ih (clampPath m p s))

theorem clampEntry_otherModule {m n : ModuleId} (hn : n ≠ m) (s : State) :
    moduleAt (clampEntry m s) n = moduleAt s n := by
  unfold clampEntry
  generalize allPaths = ps
  induction ps generalizing s with
  | nil => rfl
  | cons p ps ih => exact (ih (clampPath m p s)).trans (clampPath_otherModule hn p s)

@[simp] theorem clampEntry_throttle (m : ModuleId) (s : State) (n : ModuleId) :
    (moduleAt (clampEntry m s) n).throttle = (moduleAt s n).throttle := by rw [clampEntry_module m s n]
@[simp] theorem clampEntry_context (m : ModuleId) (s : State) (n : ModuleId) :
    (moduleAt (clampEntry m s) n).context = (moduleAt s n).context := by rw [clampEntry_module m s n]
@[simp] theorem clampEntry_ring (m : ModuleId) (s : State) (n : ModuleId) :
    (moduleAt (clampEntry m s) n).ring = (moduleAt s n).ring := by rw [clampEntry_module m s n]
@[simp] theorem clampEntry_active (m : ModuleId) (s : State) (n : ModuleId) :
    (moduleAt (clampEntry m s) n).active = (moduleAt s n).active := by rw [clampEntry_module m s n]
@[simp] theorem clampEntry_scrub (m : ModuleId) (s : State) (n : ModuleId) :
    (moduleAt (clampEntry m s) n).scrub = (moduleAt s n).scrub := by rw [clampEntry_module m s n]

/-! ### Firing (R99, R101) -/

theorem offer_only (r : Report) (s : State) : OnlyBurstsAndReports s (offer r s) := by
  unfold OnlyBurstsAndReports
  rw [offer_paths, offer_modules, offer_forwardOutput]
  exact offer_writes r s

theorem notice_writes (m : ModuleId) (old : ThrottleState) (cause : NoticeCause) (s : State) :
    OnlyBurstsAndReports s (notice m old cause s) := by
  unfold notice
  exact offer_only _ s

@[simp] theorem moduleAt_notice (m : ModuleId) (old : ThrottleState) (cause : NoticeCause) (s : State) (n : ModuleId) :
    moduleAt (notice m old cause s) n = moduleAt s n := by
  unfold notice
  exact moduleAt_offer _ s n

theorem setThrottle_writes (m : ModuleId) (t : ThrottleContext) (s : State) :
    OnlyBurstsAndReports s (setThrottle m t s) := rfl

theorem strike_writes (m : ModuleId) (c : Criterion) (p : Profile) (s : State) :
    OnlyBurstsAndReports s (strike m c p s) := by
  unfold strike
  exact ((setThrottle_writes m _ s).trans (clampEntry_writes m _).withReports).trans (notice_writes m _ _ _)

theorem actOnThrottle_writes (m : ModuleId) (c : Criterion) (s : State) :
    OnlyBurstsAndReports s (actOnThrottle m c s) := by
  unfold actOnThrottle
  dsimp only
  split
  · exact .refl s
  · split
    · exact .refl s
    · exact .refl s
    · exact setThrottle_writes m _ s
    · exact strike_writes m c _ s
    · exact strike_writes m c _ s

theorem fire_writes (m : ModuleId) (c : Criterion) (s : State) : OnlyBurstsAndReports s (fire m c s) := by
  unfold fire
  dsimp only
  split
  · exact (setThrottle_writes m _ s).trans (actOnThrottle_writes m c _)
  · exact setThrottle_writes m _ s

/-- What a firing may change of a module: its throttle context and its accounts. -/
def KeepsButThrottle (x y : ModuleState) : Prop := y = { x with throttle := y.throttle, accounts := y.accounts }

theorem KeepsButThrottle.trans {x y z : ModuleState} (h1 : KeepsButThrottle x y) (h2 : KeepsButThrottle y z) :
    KeepsButThrottle x z := by
  unfold KeepsButThrottle at *
  rw [h1] at h2
  exact h2

theorem KeepsButInFlight.loosen {x y : ModuleState} (h : KeepsButInFlight x y) : KeepsButThrottle x y := by
  unfold KeepsButInFlight KeepsButThrottle at *
  rw [h]

theorem setThrottle_module (m : ModuleId) (t : ThrottleContext) (s : State) (n : ModuleId) :
    KeepsButThrottle (moduleAt s n) (moduleAt (setThrottle m t s) n) := by
  rw [setThrottle_eq, moduleAt_setModuleAt]
  split
  · next e => subst e; rfl
  · rfl

theorem strike_module (m : ModuleId) (c : Criterion) (p : Profile) (s : State) (n : ModuleId) :
    KeepsButThrottle (moduleAt s n) (moduleAt (strike m c p s) n) := by
  unfold strike
  rw [moduleAt_notice]
  exact (setThrottle_module m _ s n).trans (clampEntry_module m _ n).loosen

theorem actOnThrottle_module (m : ModuleId) (c : Criterion) (s : State) (n : ModuleId) :
    KeepsButThrottle (moduleAt s n) (moduleAt (actOnThrottle m c s) n) := by
  unfold actOnThrottle
  dsimp only
  split
  · rfl
  · split
    · rfl
    · rfl
    · exact setThrottle_module m _ s n
    · exact strike_module m c _ s n
    · exact strike_module m c _ s n

theorem fire_module (m : ModuleId) (c : Criterion) (s : State) (n : ModuleId) :
    KeepsButThrottle (moduleAt s n) (moduleAt (fire m c s) n) := by
  unfold fire
  dsimp only
  split
  · exact (setThrottle_module m _ s n).trans (actOnThrottle_module m c _ n)
  · exact setThrottle_module m _ s n

@[simp] theorem fire_context (m : ModuleId) (c : Criterion) (s : State) (n : ModuleId) :
    (moduleAt (fire m c s) n).context = (moduleAt s n).context := by rw [fire_module m c s n]
@[simp] theorem fire_ring (m : ModuleId) (c : Criterion) (s : State) (n : ModuleId) :
    (moduleAt (fire m c s) n).ring = (moduleAt s n).ring := by rw [fire_module m c s n]
@[simp] theorem fire_active (m : ModuleId) (c : Criterion) (s : State) (n : ModuleId) :
    (moduleAt (fire m c s) n).active = (moduleAt s n).active := by rw [fire_module m c s n]
@[simp] theorem fire_scrub (m : ModuleId) (c : Criterion) (s : State) (n : ModuleId) :
    (moduleAt (fire m c s) n).scrub = (moduleAt s n).scrub := by rw [fire_module m c s n]

theorem setThrottle_otherModule {m n : ModuleId} (hn : n ≠ m) (t : ThrottleContext) (s : State) :
    moduleAt (setThrottle m t s) n = moduleAt s n := moduleAt_setModuleAt_other hn _ s

theorem strike_otherModule {m n : ModuleId} (hn : n ≠ m) (c : Criterion) (p : Profile) (s : State) :
    moduleAt (strike m c p s) n = moduleAt s n := by
  unfold strike
  rw [moduleAt_notice, clampEntry_otherModule hn, setThrottle_otherModule hn]

theorem actOnThrottle_otherModule {m n : ModuleId} (hn : n ≠ m) (c : Criterion) (s : State) :
    moduleAt (actOnThrottle m c s) n = moduleAt s n := by
  unfold actOnThrottle
  dsimp only
  split
  · rfl
  · split
    · rfl
    · rfl
    · exact setThrottle_otherModule hn _ s
    · exact strike_otherModule hn c _ s
    · exact strike_otherModule hn c _ s

theorem fire_otherModule {m n : ModuleId} (hn : n ≠ m) (c : Criterion) (s : State) :
    moduleAt (fire m c s) n = moduleAt s n := by
  unfold fire
  dsimp only
  split
  · rw [actOnThrottle_otherModule hn, setThrottle_otherModule hn]
  · exact setThrottle_otherModule hn _ s

end Sys2Proof.Machine
end

