-- ==== Sys2Proof/Laws/Admission.lean ====
section
/-! SUPPORT. What the headroom search answers, and what a pre-emption and an admission can do to the part (R85 to
R89). -/

namespace Sys2Proof.Machine

/-! ### The headroom search -/

theorem highestFit_none {p : Profile} {h i : Nat} :
    ∀ {g0 : Nat}, highestFit p h i g0 = none ↔ ∀ k ≤ g0, ¬ i + weight p k ≤ h
  | 0 => by simp [highestFit]
  | g + 1 => by
    unfold highestFit
    by_cases hh : i + weight p (g + 1) ≤ h
    · rw [if_pos hh]
      exact ⟨fun e => (Option.some_ne_none _ e).elim, fun H => (H (g + 1) (Nat.le_refl _) hh).elim⟩
    · rw [if_neg hh, highestFit_none]
      refine ⟨fun H k hk => ?_, fun H k hk => H k (Nat.le_succ_of_le hk)⟩
      rcases Nat.lt_or_ge k (g + 1) with hlt | hge
      · exact H k (Nat.lt_succ_iff.mp hlt)
      · exact Nat.le_antisymm hk hge ▸ hh

theorem highestFit_some {p : Profile} {h i : Nat} : ∀ {g0 g : Nat}, g ≤ g0 → i + weight p g ≤ h →
    (∀ k, g < k → k ≤ g0 → ¬ i + weight p k ≤ h) → highestFit p h i g0 = some g
  | 0, g, hg, hf, _ => by
    have e : g = 0 := Nat.le_zero.mp hg
    subst e
    unfold highestFit
    exact if_pos hf
  | g0 + 1, g, hg, hf, H => by
    unfold highestFit
    rcases Nat.lt_or_ge g (g0 + 1) with hlt | hge
    · rw [if_neg (H (g0 + 1) hlt (Nat.le_refl _))]
      exact highestFit_some (Nat.lt_succ_iff.mp hlt) hf fun k h1 h2 => H k h1 (Nat.le_succ_of_le h2)
    · have e : g = g0 + 1 := Nat.le_antisymm hg hge
      subst e
      exact if_pos hf

/-! ### Pre-emption (R88) -/

theorem preempt_writes (qs : List PathId) (s : State) : OnlyBursts s (preempt qs s) := by
  unfold preempt
  induction qs generalizing s with
  | nil => exact .refl s
  | cons q qs ih => exact (lowerBurst_writes q 0 s).trans (ih (lowerBurst q 0 s))

theorem preempt_module (qs : List PathId) (s : State) (m : ModuleId) :
    KeepsButInFlight (moduleAt s m) (moduleAt (preempt qs s) m) := by
  unfold preempt
  induction qs generalizing s with
  | nil => rfl
  | cons q qs ih => exact (lowerBurst_module q 0 s m).trans (ih (lowerBurst q 0 s))

/-- A path in no burst is not touched. -/
theorem preempt_idlePath {p : PathId} : ∀ (qs : List PathId) {s : State}, (pathAt s p).burst = none →
    pathAt (preempt qs s) p = pathAt s p
  | [], _, _ => rfl
  | q :: qs, s, h => by
    have e : pathAt (lowerBurst q 0 s) p = pathAt s p := by
      by_cases hq : p = q
      · subst hq
        rw [lowerBurst_idle h]
      · exact lowerBurst_otherPath hq 0 s
    exact (preempt_idlePath qs (s := lowerBurst q 0 s) (e ▸ h)).trans e

/-! ### Admission -/

theorem admitHeadroom_writes (m : ModuleId) (cls : TrafficClass) (p : Profile) (r : Nat) (s : State) :
    OnlyBursts s (admitHeadroom m cls p r s).2 := by
  unfold admitHeadroom
  dsimp only
  split
  · exact .refl s
  · split
    · exact .refl s
    · split
      · exact preempt_writes _ s
      · exact preempt_writes _ s

theorem decideAdmission_writes (p : PathId) (length r : Nat) (s : State) :
    OnlyBursts s (decideAdmission p length r s).2 := by
  unfold decideAdmission
  dsimp only
  split
  · exact .refl s
  · split
    · unfold admitGoverning
      dsimp only
      split
      · exact .refl s
      · split
        · exact .refl s
        · exact admitHeadroom_writes ..
    · exact .refl s

end Sys2Proof.Machine
end

