-- ==== Sys2Proof/Laws/Frames.lean ====
section
/-! SUPPORT. The frames the model builds read back as they were built, and pass their check. -/

namespace Sys2Proof.Machine

/-! ### Headers -/

theorem headerOf_toNat {kind low : Nat} (hk : kind < 16) (hl : low < 4096) :
    (headerOf kind low).toNat = kind * 4096 + low := by
  simp only [headerOf, BitVec.toNat_ofNat]
  omega

@[simp] theorem checkWordHolds_sealFrame (header : Word) (body : List Word) :
    checkWordHolds (sealFrame header body) = true := by
  simp [checkWordHolds, sealFrame]

@[simp] theorem sealFrame_body (header : Word) (body : List Word) : (sealFrame header body).body = body := rfl
@[simp] theorem sealFrame_header (header : Word) (body : List Word) : (sealFrame header body).header = header := rfl

theorem frameKind_seal {kind low : Nat} (hk : kind < 16) (hl : low < 4096) (body : List Word) :
    frameKind (sealFrame (headerOf kind low) body) = kind := by
  simp only [frameKind, sealFrame_header, headerOf_toNat hk hl]
  omega

theorem pathLow_lt (spare : BitVec 9) (p : PathId) : spare.toNat * 8 + p.val < 4096 := by
  have h1 := spare.isLt
  have h2 := p.isLt
  omega

theorem frameKind_path {kind : Nat} (hk : kind < 16) (spare : BitVec 9) (p : PathId) (body : List Word) :
    frameKind (sealFrame (pathHeader kind spare p) body) = kind :=
  frameKind_seal hk (pathLow_lt spare p) body

theorem framePath_path {kind : Nat} (hk : kind < 16) (spare : BitVec 9) (p : PathId) (body : List Word) :
    framePath (sealFrame (pathHeader kind spare p) body) = p := by
  apply Fin.ext
  simp only [framePath, sealFrame_header, pathHeader, headerOf_toNat hk (pathLow_lt spare p)]
  have := p.isLt
  omega

theorem frameSpare_path {kind : Nat} (hk : kind < 16) (spare : BitVec 9) (p : PathId) (body : List Word) :
    frameSpare (sealFrame (pathHeader kind spare p) body) = spare := by
  apply BitVec.eq_of_toNat_eq
  simp only [frameSpare, sealFrame_header, pathHeader, headerOf_toNat hk (pathLow_lt spare p), BitVec.toNat_ofNat]
  have h1 := spare.isLt
  have h2 := p.isLt
  omega

theorem node_lt (node : Fin 4) : node.val < 4096 := by
  have := node.isLt
  omega

theorem frameKind_node {kind : Nat} (hk : kind < 16) (node : Fin 4) (body : List Word) :
    frameKind (sealFrame (headerOf kind node.val) body) = kind :=
  frameKind_seal hk (node_lt node) body

theorem frameNode_node {kind : Nat} (hk : kind < 16) (node : Fin 4) (body : List Word) :
    frameNode (sealFrame (headerOf kind node.val) body) = node.val := by
  simp only [frameNode, sealFrame_header, headerOf_toNat hk (node_lt node)]
  have := node.isLt
  omega

/-! ### The frames of the forward lane -/

@[simp] theorem frameKind_sampleFrame (p : PathId) (spare : BitVec 9) (position : Word) (samples : List Word) :
    frameKind (sampleFrame p spare position samples) = kindSample :=
  frameKind_path (by decide) spare p _

@[simp] theorem frameKind_burstOpenFrame (p : PathId) (spare : BitVec 9) (declared level : Word) :
    frameKind (burstOpenFrame p spare declared level) = kindBurstOpen :=
  frameKind_path (by decide) spare p _

@[simp] theorem frameKind_burstCloseFrame (p : PathId) (spare : BitVec 9) :
    frameKind (burstCloseFrame p spare) = kindBurstClose :=
  frameKind_path (by decide) spare p _

@[simp] theorem frameKind_levelStepFrame (p : PathId) (spare : BitVec 9) (level : Word) :
    frameKind (levelStepFrame p spare level) = kindLevelStep :=
  frameKind_path (by decide) spare p _

@[simp] theorem frameKind_controlFrame (node : Fin 4) (code : Word) (params : List Word) :
    frameKind (controlFrame node code params) = kindControl :=
  frameKind_node (by decide) node _

@[simp] theorem frameKind_segmentFrame (node : Fin 4) (index : Word) (words : List Word) :
    frameKind (segmentFrame node index words) = kindSegment :=
  frameKind_node (by decide) node _

@[simp] theorem frameKind_telemetryFrame (spare : BitVec 12) (a b c d e : Word) :
    frameKind (telemetryFrame spare a b c d e) = kindTelemetry :=
  frameKind_seal (by decide) spare.isLt _

/-- SAMPLE passes whatever its samples (R135, R146). -/
@[simp] theorem passes_sampleFrame (p : PathId) (spare : BitVec 9) (position : Word) (samples : List Word) :
    passesForward (sampleFrame p spare position samples) = true := by
  rw [passesForward, frameKind_sampleFrame]
  simp [sampleFrame, forwardLengthAllowed]

@[simp] theorem passes_burstOpenFrame (p : PathId) (spare : BitVec 9) (declared level : Word) :
    passesForward (burstOpenFrame p spare declared level) = true := by
  rw [passesForward, frameKind_burstOpenFrame]
  simp [burstOpenFrame, forwardLengthAllowed, kindSample, kindBurstOpen]

@[simp] theorem passes_burstCloseFrame (p : PathId) (spare : BitVec 9) :
    passesForward (burstCloseFrame p spare) = true := by
  rw [passesForward, frameKind_burstCloseFrame]
  simp [burstCloseFrame, forwardLengthAllowed, kindSample, kindBurstOpen, kindBurstClose]

@[simp] theorem passes_levelStepFrame (p : PathId) (spare : BitVec 9) (level : Word) :
    passesForward (levelStepFrame p spare level) = true := by
  rw [passesForward, frameKind_levelStepFrame]
  simp [levelStepFrame, forwardLengthAllowed, kindSample, kindBurstOpen, kindBurstClose, kindLevelStep]

/-- CONTROL passes exactly with at most 12 parameter words (R146). -/
@[simp] theorem passes_controlFrame (node : Fin 4) (code : Word) (params : List Word) :
    passesForward (controlFrame node code params) = decide (params.length ≤ 12) := by
  rw [passesForward, frameKind_controlFrame]
  simp [controlFrame, forwardLengthAllowed, kindSample, kindBurstOpen, kindBurstClose, kindLevelStep, kindControl]
  omega

/-- SEGMENT passes exactly with 32 words (R146). -/
@[simp] theorem passes_segmentFrame (node : Fin 4) (index : Word) (words : List Word) :
    passesForward (segmentFrame node index words) = (words.length == 32) := by
  rw [passesForward, frameKind_segmentFrame]
  simp [segmentFrame, forwardLengthAllowed, kindSample, kindBurstOpen, kindBurstClose, kindLevelStep, kindControl,
    kindSegment]

@[simp] theorem passes_telemetryFrame (spare : BitVec 12) (a b c d e : Word) :
    passesReturn (telemetryFrame spare a b c d e) = true := by
  rw [passesReturn, frameKind_telemetryFrame]
  simp [telemetryFrame]

end Sys2Proof.Machine
end

