-- ==== Sys2Proof/Laws/Ports.lean ====
section
/-! SUPPORT. What the two ports do with an arrival, said once for each case (R133, R136, R137, R140, R141), and what the
Command Unit does with a CONTROL frame (R152). -/

namespace Sys2Proof.Machine

/-! ### The modem port -/

theorem modemPort_free {f : Frame} {s : State} (handler : State → State) (h1 : s.deviceState ≠ .offline)
    (h2 : s.forwardOutput = []) (h3 : s.modemWaiting = []) (hf : passesForward f = true) :
    modemPort f handler s = handler s := by
  simp [modemPort, modemPortFree, takeForward, h1, h2, h3, hf]

theorem modemPort_failing {f : Frame} {s : State} (handler : State → State) (h1 : s.deviceState ≠ .offline)
    (h2 : s.forwardOutput = []) (h3 : s.modemWaiting = []) (hf : passesForward f = false) :
    modemPort f handler s = addCondition .forwardCheck s := by
  simp [modemPort, modemPortFree, takeForward, h1, h2, h3, hf]

theorem modemPort_busy {f : Frame} {s : State} (handler : State → State) (h1 : s.deviceState ≠ .offline)
    (h2 : s.forwardOutput ≠ [] ∨ s.modemWaiting ≠ []) :
    modemPort f handler s = { s with modemWaiting := s.modemWaiting ++ [f] } := by
  have h : modemPortFree s = false := by
    rcases h2 with h2 | h2 <;> simp [modemPortFree, h2]
  simp [modemPort, h1, h]

theorem modemPort_offline {f : Frame} {s : State} (handler : State → State) (h : s.deviceState = .offline) :
    modemPort f handler s = s := by
  simp [modemPort, takeForward, h]

/-- A CONTROL frame of the part's node, with at most 12 parameter words, reaches the Command Unit. -/
theorem controlArrives_free {code : Word} {params : List Word} {s : State} (handler : State → State)
    (h1 : s.deviceState ≠ .offline) (h2 : s.forwardOutput = []) (h3 : s.modemWaiting = []) (hp : params.length ≤ 12) :
    controlArrives code params handler s = handler s :=
  modemPort_free handler h1 h2 h3 (by simp [hp])

/-! ### The radio port -/

theorem enterBuffer_room {f : Frame} {s : State} (h : s.returnBuffer.length < 4) :
    enterBuffer f s = chooseIfIdle { s with returnBuffer := s.returnBuffer ++ [f] } := by
  simp [enterBuffer, Config.returnBufferSize, h]

theorem enterBuffer_full {f : Frame} {s : State} (h : ¬ s.returnBuffer.length < 4) :
    enterBuffer f s = addCondition .returnOverrun s := by
  simp [enterBuffer, Config.returnBufferSize, h]

theorem radioPort_passing {f : Frame} {s : State} (reading : State → State) (h : s.deviceState ≠ .offline)
    (hf : passesReturn f = true) : radioPort f reading s = enterBuffer f (reading s) := by
  simp [radioPort, h, hf]

theorem radioPort_failing {f : Frame} {s : State} (reading : State → State) (h : s.deviceState ≠ .offline)
    (hf : passesReturn f = false) : radioPort f reading s = enterBuffer f (addCondition .returnCheck s) := by
  simp [radioPort, h, hf]

theorem radioPort_offline {f : Frame} {s : State} (reading : State → State) (h : s.deviceState = .offline) :
    radioPort f reading s = s := by
  simp [radioPort, h]

/-! ### The Command Unit -/

theorem takeCommand_full {cmd : Command} {effect : List Word → State → State} {params : List Word} {s : State}
    (h : 16 ≤ s.reports.length) (hc : cmd ≠ .hardReset) :
    takeCommand cmd effect params s = addCondition .reportOverflow s := by
  simp [takeCommand, queueFull, Config.reportQueueSize, h, hc]

theorem takeCommand_refused {cmd : Command} {effect : List Word → State → State} {params : List Word} {s : State}
    {o : AnswerOutcome} (h : s.reports.length < 16) (ho : refusalFor s cmd params = some o) :
    takeCommand cmd effect params s = refuse cmd o s := by
  simp [takeCommand, queueFull, Config.reportQueueSize, Nat.not_le.mpr h, ho]

theorem takeCommand_executed {cmd : Command} {effect : List Word → State → State} {params : List Word} {s : State}
    (h : s.reports.length < 16) (ho : refusalFor s cmd params = none) (hp : params.length = parameterCount cmd) :
    takeCommand cmd effect params s = effect params s := by
  simp [takeCommand, queueFull, Config.reportQueueSize, Nat.not_le.mpr h, ho, hp]

/-- In STANDBY or GOVERNING with no long command every command is executed (R152, last row). -/
theorem refusalFor_working {s : State} (cmd : Command) (params : List Word) (hd : s.deviceState = .standby ∨ s.deviceState = .governing)
    (hl : s.longCommand = .none) : refusalFor s cmd params = none := by
  rcases hd with hd | hd <;> simp [refusalFor, longInProgress, hd, hl]

/-- IDENTIFY and READ STATUS are executed in every device state that takes commands (R152). -/
theorem refusalFor_always {s : State} {cmd : Command} (params : List Word) (h : cmd = .identify ∨ cmd = .readStatus) :
    refusalFor s cmd params = none := by
  rcases h with h | h <;> simp [refusalFor, h]

/-- READ ENTRY of kind 2 is executed during a commit (R18, R159). -/
theorem refusalFor_readsShadow {s : State} {m : ModuleId} {check : CheckValue} (i j : Word)
    (hd : s.deviceState = .standby ∨ s.deviceState = .governing) (hl : s.longCommand = .commit m check) :
    refusalFor s .readEntry [2, i, j] = none := by
  rcases hd with hd | hd <;> simp [refusalFor, readsShadowInCommit, commitRunning, hd, hl]

end Sys2Proof.Machine
end

