-- ==== Sys2Proof/Laws/Arrivals.lean ====
section
/-! SUPPORT. What `exec` answers for a forward command that an open modem port takes: the owning block's handling, with
no port in it (R137); and for a CONTROL command that is executed: its effect (R152). -/

namespace Sys2Proof.Machine

section Arrivals

variable {s : State} (h1 : s.deviceState ≠ .offline) (h2 : s.forwardOutput = []) (h3 : s.modemWaiting = [])

include h1 h2 h3

/-! ### Frames of the paths and segments -/

theorem exec_sample_taken (p : PathId) (spare : BitVec 9) (position : Word) (samples : List Word) :
    exec (.sample p spare position samples) s =
      .next (takeSample p (sampleFrame p spare position samples) position.toNat s) :=
  congrArg Host.Outcome.next (modemPort_free _ h1 h2 h3 (passes_sampleFrame p spare position samples))

theorem exec_burstOpen_taken (p : PathId) (spare : BitVec 9) (declared level : Word) :
    exec (.burstOpen p spare declared level) s = .next (takeBurstOpen p spare declared level s) :=
  congrArg Host.Outcome.next (modemPort_free _ h1 h2 h3 (passes_burstOpenFrame p spare declared level))

theorem exec_burstClose_taken (p : PathId) (spare : BitVec 9) :
    exec (.burstClose p spare) s = .next (takeBurstClose p spare s) :=
  congrArg Host.Outcome.next (modemPort_free _ h1 h2 h3 (passes_burstCloseFrame p spare))

theorem exec_levelStep_taken (p : PathId) (spare : BitVec 9) (level : Word) :
    exec (.levelStep p spare level) s = .next (takeLevelStep p spare level s) :=
  congrArg Host.Outcome.next (modemPort_free _ h1 h2 h3 (passes_levelStepFrame p spare level))

theorem exec_segment_taken (index : Word) (words : List Word) (hw : words.length = 32) :
    exec (.segment index words) s = .next (takeSegment index words s) :=
  congrArg Host.Outcome.next (modemPort_free _ h1 h2 h3
    (by rw [passes_segmentFrame, hw]; rfl))

/-! ### CONTROL commands -/

/-- A CONTROL command that an open port takes, with the queue not full and no refusal for its state or its parameters,
has its effect. -/
theorem controlArrives_executed {cmd : Command} {effect : List Word → State → State} {params : List Word}
    (hq : s.reports.length < 16) (ho : refusalFor s cmd params = none) (hp : params.length = parameterCount cmd) :
    controlArrives (commandCode cmd) params (takeCommand cmd effect params) s = effect params s := by
  have h12 : params.length ≤ 12 := by
    rw [hp]
    cases cmd <;> decide
  rw [controlArrives_free _ h1 h2 h3 h12, takeCommand_executed hq ho hp]

end Arrivals

section Executed

variable {s : State} (h1 : s.deviceState ≠ .offline) (h2 : s.forwardOutput = []) (h3 : s.modemWaiting = [])
  (hq : s.reports.length < 16)

include h1 h2 h3 hq

theorem exec_identify_executed : exec (.identify []) s = .next (doIdentify [] s) :=
  congrArg Host.Outcome.next (controlArrives_executed h1 h2 h3 hq (refusalFor_always _ (.inl rfl)) rfl)

theorem exec_readStatus_executed (w : Word) : exec (.readStatus [w]) s = .next (doReadStatus [w] s) :=
  congrArg Host.Outcome.next (controlArrives_executed h1 h2 h3 hq (refusalFor_always _ (.inr rfl)) rfl)

/-- READ ENTRY of kind 2 has its effect during a commit (R18, R159). -/
theorem exec_readEntry_inCommit {m : ModuleId} {check : CheckValue}
    (hd : s.deviceState = .standby ∨ s.deviceState = .governing) (hl : s.longCommand = .commit m check) (i j : Word) :
    exec (.readEntry [2, i, j]) s = .next (doReadEntry [2, i, j] s) :=
  congrArg Host.Outcome.next (controlArrives_executed h1 h2 h3 hq (refusalFor_readsShadow i j hd hl) rfl)

variable (hd : s.deviceState = .standby ∨ s.deviceState = .governing) (hl : s.longCommand = .none)

include hd hl

theorem exec_setPath_executed (a b c d e : Word) :
    exec (.setPath [a, b, c, d, e]) s = .next (doSetPath [a, b, c, d, e] s) :=
  congrArg Host.Outcome.next (controlArrives_executed h1 h2 h3 hq (refusalFor_working _ _ hd hl) rfl)

theorem exec_setModule_executed (a b c d e : Word) :
    exec (.setModule [a, b, c, d, e]) s = .next (doSetModule [a, b, c, d, e] s) :=
  congrArg Host.Outcome.next (controlArrives_executed h1 h2 h3 hq (refusalFor_working _ _ hd hl) rfl)

theorem exec_setLimits_executed (a b c d : Word) :
    exec (.setLimits [a, b, c, d]) s = .next (doSetLimits [a, b, c, d] s) :=
  congrArg Host.Outcome.next (controlArrives_executed h1 h2 h3 hq (refusalFor_working _ _ hd hl) rfl)

theorem exec_setDevice_executed (a b c : Word) : exec (.setDevice [a, b, c]) s = .next (doSetDevice [a, b, c] s) :=
  congrArg Host.Outcome.next (controlArrives_executed h1 h2 h3 hq (refusalFor_working _ _ hd hl) rfl)

theorem exec_loadOpen_executed (a b c : Word) : exec (.loadOpen [a, b, c]) s = .next (doLoadOpen [a, b, c] s) :=
  congrArg Host.Outcome.next (controlArrives_executed h1 h2 h3 hq (refusalFor_working _ _ hd hl) rfl)

theorem exec_loadAbort_executed : exec (.loadAbort []) s = .next (doLoadAbort [] s) :=
  congrArg Host.Outcome.next (controlArrives_executed h1 h2 h3 hq (refusalFor_working _ _ hd hl) rfl)

theorem exec_commit_executed (a b c : Word) : exec (.commit [a, b, c]) s = .next (doCommit [a, b, c] s) :=
  congrArg Host.Outcome.next (controlArrives_executed h1 h2 h3 hq (refusalFor_working _ _ hd hl) rfl)

theorem exec_govern_executed : exec (.govern []) s = .next (doGovern [] s) :=
  congrArg Host.Outcome.next (controlArrives_executed h1 h2 h3 hq (refusalFor_working _ _ hd hl) rfl)

theorem exec_standby_executed : exec (.standby []) s = .next (doStandby [] s) :=
  congrArg Host.Outcome.next (controlArrives_executed h1 h2 h3 hq (refusalFor_working _ _ hd hl) rfl)

theorem exec_clearLatch_executed (a : Word) : exec (.clearLatch [a]) s = .next (doClearLatch [a] s) :=
  congrArg Host.Outcome.next (controlArrives_executed h1 h2 h3 hq (refusalFor_working _ _ hd hl) rfl)

theorem exec_snapshot_executed (a : Word) : exec (.snapshot [a]) s = .next (doSnapshot [a] s) :=
  congrArg Host.Outcome.next (controlArrives_executed h1 h2 h3 hq (refusalFor_working _ _ hd hl) rfl)

theorem exec_readEntry_executed (a b c : Word) : exec (.readEntry [a, b, c]) s = .next (doReadEntry [a, b, c] s) :=
  congrArg Host.Outcome.next (controlArrives_executed h1 h2 h3 hq (refusalFor_working _ _ hd hl) rfl)

theorem exec_runTests_executed (a : Word) : exec (.runTests [a]) s = .next (doRunTests [a] s) :=
  congrArg Host.Outcome.next (controlArrives_executed h1 h2 h3 hq (refusalFor_working _ _ hd hl) rfl)

end Executed

end Sys2Proof.Machine
end

