-- ==== Sys2Proof/Laws/Window.lean ====
section
/-! SUPPORT. What the stages of a ring advance and a commit's completion can do to the part (R45, R50, R52, R104,
R106). -/

namespace Sys2Proof.Machine

/-! ### The release step (R104) -/

theorem takeReleaseStep_writes (m : ModuleId) (s : State) : OnlyBurstsAndReports s (takeReleaseStep m s) := by
  unfold takeReleaseStep
  dsimp only
  split
  · split
    · exact (setThrottle_writes m _ s).trans (notice_writes ..)
    · exact setThrottle_writes m _ s
  · exact .refl s

/-- A release step touches nothing of its module but the throttle context. -/
theorem takeReleaseStep_module (m : ModuleId) (s : State) : moduleAt (takeReleaseStep m s) m =
    { moduleAt s m with throttle := (moduleAt (takeReleaseStep m s) m).throttle } := by
  unfold takeReleaseStep
  dsimp only
  split
  · split <;> simp
  · rfl

theorem takeReleaseStep_otherModule {m n : ModuleId} (h : n ≠ m) (s : State) :
    moduleAt (takeReleaseStep m s) n = moduleAt s n := by
  unfold takeReleaseStep
  dsimp only
  split
  · split <;> simp [moduleAt_setModuleAt_other h]
  · rfl

/-! ### The SLOPE stage (R49, R50) -/

theorem slopeStage_writes (m : ModuleId) (s : State) : OnlyBurstsAndReports s (slopeStage m s) := by
  unfold slopeStage
  dsimp only
  split
  · exact (show OnlyBurstsAndReports s (setRing m _ s) from rfl).trans (fire_writes ..)
  · rfl

/-- A firing leaves the committed frames of its module. -/
@[simp] theorem fire_committed (m : ModuleId) (c : Criterion) (s : State) :
    (moduleAt (fire m c s) m).accounts.committed = (moduleAt s m).accounts.committed := by
  unfold fire
  dsimp only
  split
  · unfold actOnThrottle
    dsimp only
    split
    · simp
    · split <;> simp [strike]
      all_goals rw [clampEntry_module]; simp
  · simp

/-- The SLOPE stage records the slope reference, and may change the throttle context and the weight in flight. -/
theorem slopeStage_module (m : ModuleId) (s : State) : moduleAt (slopeStage m s) m =
    { moduleAt s m with
      ring := { (moduleAt s m).ring with slopeReference := nextReference (moduleAt s m).context },
      throttle := (moduleAt (slopeStage m s) m).throttle,
      accounts := { (moduleAt s m).accounts with inFlight := (moduleAt (slopeStage m s) m).accounts.inFlight } } := by
  unfold slopeStage
  dsimp only
  split
  · generalize hu : setRing m _ s = u
    have e := fire_module m .slope u m
    have c := fire_committed m .slope u
    unfold KeepsButThrottle at e
    have hm : moduleAt u m = { moduleAt s m with ring :=
        { (moduleAt s m).ring with slopeReference := nextReference (moduleAt s m).context } } := by
      rw [← hu]
      simp
    rw [e]
    rw [hm] at c ⊢
    simp only at c ⊢
    rw [← c]
  · simp

theorem slopeStage_otherModule {m n : ModuleId} (h : n ≠ m) (s : State) :
    moduleAt (slopeStage m s) n = moduleAt s n := by
  unfold slopeStage
  dsimp only
  split
  · rw [fire_otherModule h]
    simp [moduleAt_setModuleAt_other h]
  · simp [moduleAt_setModuleAt_other h]

/-! ### The start of a scrub (R52) -/

theorem scrubStage_writes (m : ModuleId) (s : State) : OnlyBurstsAndReports s (scrubStage m s) := by
  unfold scrubStage
  split
  · rfl
  · exact .refl s

theorem scrubStage_otherModule {m n : ModuleId} (h : n ≠ m) (s : State) :
    moduleAt (scrubStage m s) n = moduleAt s n := by
  unfold scrubStage
  split
  · simp [moduleAt_setModuleAt_other h]
  · rfl

/-! ### The ring advance (R45) -/

theorem advance_writes (m : ModuleId) (s : State) : OnlyBurstsAndReports s (advance m s) := by
  unfold advance
  exact (((show OnlyBurstsAndReports s (setRing m _ s) from rfl).trans (slopeStage_writes ..)).trans
    (takeReleaseStep_writes ..)).trans (scrubStage_writes ..)

theorem advance_otherModule {m n : ModuleId} (h : n ≠ m) (s : State) : moduleAt (advance m s) n = moduleAt s n := by
  unfold advance
  dsimp only
  rw [scrubStage_otherModule h, takeReleaseStep_otherModule h, slopeStage_otherModule h]
  exact moduleAt_setModuleAt_other h _ s

/-! ### The throttle at a commit's completion (R106) -/

theorem throttleTakesCommit_writes (m : ModuleId) (p : Profile) (s : State) :
    OnlyBurstsAndReports s (throttleTakesCommit m p s) := by
  unfold throttleTakesCommit
  dsimp only
  split
  · exact (setThrottle_writes m _ s).trans (notice_writes ..)
  · exact .refl s
  · split
    · exact ((setThrottle_writes m _ s).trans (clampEntry_writes m _).withReports).trans (notice_writes ..)
    · exact .refl s
  · split
    · exact ((setThrottle_writes m _ s).trans (clampEntry_writes m _).withReports).trans (notice_writes ..)
    · exact .refl s
  · exact setThrottle_writes m _ s

theorem throttleTakesCommit_module (m : ModuleId) (p : Profile) (s : State) (n : ModuleId) :
    KeepsButThrottle (moduleAt s n) (moduleAt (throttleTakesCommit m p s) n) := by
  unfold throttleTakesCommit
  dsimp only
  split
  · rw [moduleAt_notice]
    exact setThrottle_module ..
  · rfl
  · split
    · rw [moduleAt_notice]
      exact (setThrottle_module m _ s n).trans (clampEntry_module m _ n).loosen
    · rfl
  · split
    · rw [moduleAt_notice]
      exact (setThrottle_module m _ s n).trans (clampEntry_module m _ n).loosen
    · rfl
  · exact setThrottle_module ..

theorem throttleTakesCommit_otherModule {m n : ModuleId} (h : n ≠ m) (p : Profile) (s : State) :
    moduleAt (throttleTakesCommit m p s) n = moduleAt s n := by
  unfold throttleTakesCommit
  dsimp only
  split
  · rw [moduleAt_notice]
    exact setThrottle_otherModule h ..
  · rfl
  · split
    · rw [moduleAt_notice, clampEntry_otherModule h]
      exact setThrottle_otherModule h ..
    · rfl
  · split
    · rw [moduleAt_notice, clampEntry_otherModule h]
      exact setThrottle_otherModule h ..
    · rfl
  · exact setThrottle_otherModule h ..

end Sys2Proof.Machine
end

