-- ==== Sys2Proof/Laws/Device.lean ====
section
/-! SUPPORT. The whole effect of what a reset, SOFT RESTART and LOCKDOWN end, and of writing words into the shadow
(R119, R175, R177). -/

namespace Sys2Proof.Machine

/-- No other field, and of a module nothing but its scrub. -/
theorem abandonScrubs_eq (s : State) :
    abandonScrubs s = { s with modules := s.modules.map fun x => { x with scrub := false } } := by
  have h : (abandonScrubs s).modules = s.modules.map fun x => { x with scrub := false } := by
    apply @modules_ext (abandonScrubs s) { s with modules := s.modules.map fun x => { x with scrub := false } }
    intro m
    simp only [abandonScrubs, allModules, List.foldl, setScrub_eq, moduleAt_setModuleAt]
    rcases m with ⟨_ | _ | _ | _ | n, hn⟩
    · simp [moduleAt]
    · simp [moduleAt]
    · simp [moduleAt]
    · simp [moduleAt]
    · exact absurd hn (by omega)
  rw [← h]
  rfl

theorem abandonLongCommand_none {s : State} (h : s.longCommand = .none) : abandonLongCommand s = s := by
  unfold abandonLongCommand
  rw [h]

theorem abandonLongCommand_commit {s : State} {m : ModuleId} {k : CheckValue} (h : s.longCommand = .commit m k) :
    abandonLongCommand s = { s with longCommand := .none, shadowState := .ready } := by
  unfold abandonLongCommand
  rw [h]

theorem abandonLongCommand_runTests {s : State} {t : TestSet} (h : s.longCommand = .runTests t) :
    abandonLongCommand s = { s with
      longCommand := .none, ringFault := none,
      shadow := if t.getLsbD 0 then .zero else s.shadow,
      shadowState := if t.getLsbD 0 then .empty else s.shadowState } := by
  unfold abandonLongCommand
  rw [h]
  dsimp only
  have e : selected t .tableStore = t.getLsbD 0 := rfl
  rw [e]
  cases t.getLsbD 0 <;> rfl

theorem cutLoad_none {s : State} (h : s.load = none) : cutLoad s = s := by
  unfold cutLoad
  rw [h]

theorem cutLoad_some {s : State} {l : LoadContext} (h : s.load = some l) :
    cutLoad s = { s with load := none, shadowState := .incomplete } := by
  unfold cutLoad
  rw [h]

/-- Writing from word `i` on changes the words that are written, and no other; what lies past the end is not kept. -/
theorem writeWords_word (ws : List Word) : ∀ (p : Profile) (i j : Nat), j < 410 →
    profileWord (writeWords p i ws) j =
      if i ≤ j ∧ j < i + ws.length then (ws[j - i]?).getD 0 else profileWord p j := by
  induction ws with
  | nil =>
    intro p i j hj
    rw [if_neg (by simp)]
    rfl
  | cons w ws ih =>
    intro p i j hj
    have e : profileWord (p.setIfInBounds i w) j = if i = j then w else profileWord p j := by
      simp only [profileWord, Vector.getElem?_setIfInBounds]
      by_cases h : i = j
      · subst h
        simp [hj]
      · simp [h]
    rw [writeWords, ih _ _ _ hj, e]
    by_cases h1 : i = j
    · subst h1
      simp
    · by_cases h2 : i + 1 ≤ j ∧ j < i + 1 + ws.length
      · rw [if_pos h2, if_pos (by simp; omega), show j - i = (j - (i + 1)) + 1 by omega]
        simp
      · rw [if_neg h2, if_neg h1, if_neg (by simp; omega)]

/-- An answer writes what a report's entry writes: six fields at most. -/
theorem answer_writes (code : Word) (outcome : AnswerOutcome) (detail : List Word) (s : State) :
    answer code outcome detail s = { s with
      returnBuffer := (answer code outcome detail s).returnBuffer,
      returnLane := (answer code outcome detail s).returnLane, runCount := (answer code outcome detail s).runCount,
      reports := (answer code outcome detail s).reports, reportGap := (answer code outcome detail s).reportGap,
      status := (answer code outcome detail s).status } := by
  unfold answer
  exact offer_writes _ s

end Sys2Proof.Machine
end

