-- ==== Sys2Proof/Laws/Link.lean ====
section
/-! SUPPORT. What taking a frame never does: it leaves the frames that wait on the link, and it does not take the part to
OFFLINE (R137, R166). So a later arrival finds the port as the rules of R137 say. -/

namespace Sys2Proof.Machine

/-- The waiting frames stand, and the part is OFFLINE only if it was. -/
def KeepsWaiting (s t : State) : Prop :=
  t.modemWaiting = s.modemWaiting ∧ (t.deviceState = .offline → s.deviceState = .offline)

theorem KeepsWaiting.refl (s : State) : KeepsWaiting s s := ⟨rfl, id⟩

theorem KeepsWaiting.trans {s t u : State} (h1 : KeepsWaiting s t) (h2 : KeepsWaiting t u) : KeepsWaiting s u :=
  ⟨h2.1.trans h1.1, h1.2 ∘ h2.2⟩

theorem OnlyBurstsAndReports.keepsWaiting {s t : State} (h : OnlyBurstsAndReports s t) : KeepsWaiting s t := by
  rw [h]
  exact .refl s

theorem OnlyBursts.keepsWaiting {s t : State} (h : OnlyBursts s t) : KeepsWaiting s t := h.withReports.keepsWaiting

/-! ### Bursts, readings and segments -/

theorem offer_keepsWaiting (r : Report) (s : State) : KeepsWaiting s (offer r s) := (offer_only r s).keepsWaiting

theorem setPathAt_keepsWaiting (p : PathId) (x : PathContext) (s : State) :
    KeepsWaiting s (setPathAt p x s) := ⟨rfl, id⟩

theorem send_keepsWaiting (f : Frame) (s : State) : KeepsWaiting s (send f s) := ⟨rfl, id⟩

theorem openBurst_keepsWaiting (p : PathId) (length r : Nat) (s : State) :
    KeepsWaiting s (openBurst p length r s).2 := by
  have h1 := (decideAdmission_writes p length r s).keepsWaiting
  have h2 (d : Decision) (m : ModuleId) (u : State) : KeepsWaiting u (joinAccounts m d length u) := by
    unfold joinAccounts
    split <;> exact .refl u
  have h3 (d : Decision) (u : State) : KeepsWaiting u (reportVerdict p d length r u) := by
    unfold reportVerdict
    dsimp only
    split
    · exact offer_keepsWaiting _ u
    · exact .refl u
  unfold openBurst
  dsimp only
  exact (((h1.trans (h2 ..)).trans (h3 ..)).trans (setPathAt_keepsWaiting p _ _)).trans (setPathAt_keepsWaiting p _ _)

theorem takeBurstOpen_keepsWaiting (p : PathId) (spare : BitVec 9) (declared level : Word) (s : State) :
    KeepsWaiting s (takeBurstOpen p spare declared level s) := by
  have h := (truncateBurst_writes p s).keepsWaiting
  unfold takeBurstOpen
  dsimp only
  split
  · exact h.trans (send_keepsWaiting ..)
  · exact (h.trans (openBurst_keepsWaiting p _ _ _)).trans (send_keepsWaiting ..)

theorem takeSample_keepsWaiting (p : PathId) (f : Frame) (position : Nat) (s : State) :
    KeepsWaiting s (takeSample p f position s) := by
  unfold takeSample
  repeat' split
  all_goals exact ⟨rfl, id⟩

theorem takeLevelStep_keepsWaiting (p : PathId) (spare : BitVec 9) (level : Word) (s : State) :
    KeepsWaiting s (takeLevelStep p spare level s) := by
  unfold takeLevelStep
  repeat' split
  all_goals exact ⟨rfl, id⟩

theorem takeBurstClose_keepsWaiting (p : PathId) (spare : BitVec 9) (s : State) :
    KeepsWaiting s (takeBurstClose p spare s) := by
  unfold takeBurstClose
  split
  · exact .refl s
  · next b _ => exact (leaveAccounts_writes (pathAt s p).moduleId b s).keepsWaiting

theorem endLoad_keepsWaiting (l : LoadContext) (o : LoadOutcome) (n : Option Nat) (sh : ShadowState) (s : State) :
    KeepsWaiting s (endLoad l o n sh s) := offer_keepsWaiting _ { s with load := none, shadowState := sh }

theorem takeSegment_keepsWaiting (index : Word) (words : List Word) (s : State) :
    KeepsWaiting s (takeSegment index words s) := by
  unfold takeSegment
  split
  · exact .refl s
  · next l _ =>
    split
    · unfold acceptSegment
      dsimp only
      split
      · exact endLoad_keepsWaiting _ _ _ _ { s with shadow := writeWords s.shadow (32 * l.expected) words }
      · exact .refl s
    · exact endLoad_keepsWaiting ..

/-! ### Commands -/

theorem answer_keepsWaiting (code : Word) (o : AnswerOutcome) (detail : List Word) (s : State) :
    KeepsWaiting s (answer code o detail s) := offer_keepsWaiting _ s

theorem done_keepsWaiting (cmd : Command) (detail : List Word) {s u : State} (h : KeepsWaiting s u) :
    KeepsWaiting s (done cmd detail u) := h.trans (answer_keepsWaiting _ _ _ u)

theorem refuse_keepsWaiting (cmd : Command) (o : AnswerOutcome) (s : State) : KeepsWaiting s (refuse cmd o s) :=
  answer_keepsWaiting _ _ _ s

/-- What a command's effect and every answer that takes no effect have in common. -/
theorem takeCommand_keepsWaiting {cmd : Command} {effect : List Word → State → State} {params : List Word} {s : State}
    (h : KeepsWaiting s (effect params s)) : KeepsWaiting s (takeCommand cmd effect params s) := by
  unfold takeCommand
  repeat' split
  all_goals first
    | exact h
    | exact answer_keepsWaiting _ _ _ s
    | exact .refl s

theorem abandonLongCommand_keepsWaiting (s : State) : KeepsWaiting s (abandonLongCommand s) := by
  unfold abandonLongCommand
  dsimp only
  repeat' split
  all_goals exact .refl s

theorem cutLoad_keepsWaiting (s : State) : KeepsWaiting s (cutLoad s) := by
  unfold cutLoad
  split <;> exact .refl s

theorem doSoftRestart_keepsWaiting (params : List Word) (s : State) : KeepsWaiting s (doSoftRestart params s) := by
  have h0 (u : State) : KeepsWaiting u (abandonScrubs u) := by
    rw [abandonScrubs_eq]
    exact .refl u
  have h := (((abandonLongCommand_keepsWaiting s).trans (cutLoad_keepsWaiting _)).trans (h0 _)).trans
    (truncateAll_writes _).keepsWaiting
  unfold doSoftRestart
  dsimp only
  generalize truncateAll (abandonScrubs (cutLoad (abandonLongCommand s))) = u at h ⊢
  exact .trans (t := { u with reports := [], reportGap := false, deviceState := .standby })
    ⟨h.1, fun e => nomatch e⟩ (answer_keepsWaiting _ _ _ _)

/-! The effect of each command. -/

theorem clearLatchedSets_keepsWaiting (s : State) : KeepsWaiting s (clearLatchedSets s) := by
  unfold clearLatchedSets
  refine .trans (t := { s with status := 0 }) (.refl s) ?_
  generalize { s with status := 0 } = u
  generalize allModules = ms
  induction ms generalizing u with
  | nil => exact .refl u
  | cons m ms ih => exact (setThrottle_writes m _ u).keepsWaiting.trans (ih _)

theorem clearCounters_keepsWaiting (s : State) : KeepsWaiting s (clearCounters s) := by
  unfold clearCounters
  generalize allPaths = ps
  induction ps generalizing s with
  | nil => exact .refl s
  | cons p ps ih => exact .trans (t := setPathAt p _ s) ⟨rfl, id⟩ (ih _)

theorem doReadStatus_keepsWaiting (params : List Word) (s : State) : KeepsWaiting s (doReadStatus params s) := by
  unfold doReadStatus
  split
  · split
    · next clear _ =>
      cases clear with
      | true => exact done_keepsWaiting _ _ (clearLatchedSets_keepsWaiting s)
      | false => exact done_keepsWaiting _ _ (.refl s)
    · exact refuse_keepsWaiting _ _ s
  · exact refuse_keepsWaiting _ _ s

theorem doSnapshot_keepsWaiting (params : List Word) (s : State) : KeepsWaiting s (doSnapshot params s) := by
  unfold doSnapshot
  split
  · split
    · next clear _ =>
      cases clear with
      | true => exact done_keepsWaiting _ _ (clearCounters_keepsWaiting s)
      | false => exact done_keepsWaiting _ _ (.refl s)
    · exact refuse_keepsWaiting _ _ s
  · exact refuse_keepsWaiting _ _ s

theorem doReadEntry_keepsWaiting (params : List Word) (s : State) : KeepsWaiting s (doReadEntry params s) := by
  unfold doReadEntry
  repeat' split
  all_goals first
    | exact refuse_keepsWaiting _ _ s
    | exact done_keepsWaiting _ _ (.refl s)

theorem doSetPath_keepsWaiting (params : List Word) (s : State) : KeepsWaiting s (doSetPath params s) := by
  unfold doSetPath
  repeat' split
  all_goals first
    | exact refuse_keepsWaiting _ _ s
    | exact done_keepsWaiting _ _ (.refl s)

theorem doSetModule_keepsWaiting (params : List Word) (s : State) : KeepsWaiting s (doSetModule params s) := by
  unfold doSetModule
  repeat' split
  all_goals first
    | exact refuse_keepsWaiting _ _ s
    | exact done_keepsWaiting _ _ (.refl s)

theorem doSetLimits_keepsWaiting (params : List Word) (s : State) : KeepsWaiting s (doSetLimits params s) := by
  unfold doSetLimits
  repeat' split
  all_goals first
    | exact refuse_keepsWaiting _ _ s
    | exact done_keepsWaiting _ _ (.refl s)

theorem doSetDevice_keepsWaiting (params : List Word) (s : State) : KeepsWaiting s (doSetDevice params s) := by
  unfold doSetDevice
  repeat' split
  all_goals first
    | exact refuse_keepsWaiting _ _ s
    | exact done_keepsWaiting _ _ (.refl s)

theorem doLoadOpen_keepsWaiting (params : List Word) (s : State) : KeepsWaiting s (doLoadOpen params s) := by
  unfold doLoadOpen
  repeat' split
  all_goals first
    | exact refuse_keepsWaiting _ _ s
    | exact done_keepsWaiting _ _ (.refl s)

theorem doLoadAbort_keepsWaiting (params : List Word) (s : State) : KeepsWaiting s (doLoadAbort params s) := by
  unfold doLoadAbort
  split
  · exact done_keepsWaiting _ _ (endLoad_keepsWaiting ..)
  · exact refuse_keepsWaiting _ _ s

theorem doCommit_keepsWaiting (params : List Word) (s : State) : KeepsWaiting s (doCommit params s) := by
  unfold doCommit
  repeat' split
  all_goals first
    | exact refuse_keepsWaiting _ _ s
    | exact .refl s

theorem doGovern_keepsWaiting (params : List Word) (s : State) : KeepsWaiting s (doGovern params s) := by
  unfold doGovern
  repeat' split
  · exact answer_keepsWaiting _ _ _ s
  · exact done_keepsWaiting _ _ ⟨rfl, fun e => nomatch e⟩
  · exact refuse_keepsWaiting _ _ s

theorem doStandby_keepsWaiting (params : List Word) (s : State) : KeepsWaiting s (doStandby params s) := by
  unfold doStandby
  split
  · exact done_keepsWaiting _ _ ⟨rfl, fun e => nomatch e⟩
  · exact refuse_keepsWaiting _ _ s

theorem doClearLatch_keepsWaiting (params : List Word) (s : State) : KeepsWaiting s (doClearLatch params s) := by
  unfold doClearLatch
  split
  · split
    · exact refuse_keepsWaiting _ _ s
    · dsimp only
      split
      · exact done_keepsWaiting _ _ ((KeepsWaiting.refl s).trans (notice_writes _ _ _ (setThrottle _ _ s)).keepsWaiting)
      · exact refuse_keepsWaiting _ _ s
  · exact refuse_keepsWaiting _ _ s

theorem doRunTests_keepsWaiting (params : List Word) (s : State) : KeepsWaiting s (doRunTests params s) := by
  unfold doRunTests
  split
  · dsimp only
    repeat' split
    · exact refuse_keepsWaiting _ _ s
    · exact refuse_keepsWaiting _ _ s
    · exact refuse_keepsWaiting _ _ s
    · exact ⟨rfl, fun e => nomatch e⟩
    · exact ⟨rfl, fun e => nomatch e⟩
  · exact refuse_keepsWaiting _ _ s

theorem takeControl_keepsWaiting (code : Word) (params : List Word) (s : State) :
    KeepsWaiting s (takeControl code params s) := by
  unfold takeControl
  split
  · unfold takeUnknown
    split
    · exact .refl s
    · exact answer_keepsWaiting _ _ _ s
  all_goals apply takeCommand_keepsWaiting
  · exact done_keepsWaiting _ _ (.refl s)
  · exact doReadStatus_keepsWaiting params s
  · exact doSetPath_keepsWaiting params s
  · exact doSetModule_keepsWaiting params s
  · exact doSetLimits_keepsWaiting params s
  · exact doSetDevice_keepsWaiting params s
  · exact doLoadOpen_keepsWaiting params s
  · exact doLoadAbort_keepsWaiting params s
  · exact doCommit_keepsWaiting params s
  · exact doGovern_keepsWaiting params s
  · exact doStandby_keepsWaiting params s
  · exact doClearLatch_keepsWaiting params s
  · exact doSnapshot_keepsWaiting params s
  · exact doReadEntry_keepsWaiting params s
  · exact doRunTests_keepsWaiting params s
  · exact doSoftRestart_keepsWaiting params s
  · exact ⟨rfl, fun e => nomatch e⟩

/-! ### Frames -/

/-- Taking a frame that comes as words leaves the waiting frames, and does not take the part to OFFLINE. -/
theorem takeFrame_keepsWaiting (f : Frame) (s : State) : KeepsWaiting s (takeFrame f s) := by
  unfold takeFrame takeForward
  split
  · exact .refl s
  split
  · unfold sortForward
    repeat' split
    all_goals first
      | exact send_keepsWaiting ..
      | exact .refl s
      | exact takeSample_keepsWaiting ..
      | exact takeBurstOpen_keepsWaiting ..
      | exact takeBurstClose_keepsWaiting ..
      | exact takeLevelStep_keepsWaiting ..
      | exact takeControl_keepsWaiting ..
      | exact takeSegment_keepsWaiting ..
  · exact .refl s

/-- The part takes the first waiting frame, and the rest as a sending that leaves the output empty would (R137). -/
theorem takeWaiting_step (f : Frame) (fs : List Frame) {s : State} (hf : s.forwardOutput = [])
    (ho : (takeFrame f { s with modemWaiting := fs }).forwardOutput ≠ []) :
    takeWaiting (f :: fs) s = { takeFrame f { s with modemWaiting := fs } with modemWaiting := fs } := by
  rw [takeWaiting, if_pos hf]
  cases fs with
  | nil => rfl
  | cons g gs => rw [takeWaiting, if_neg ho]

end Sys2Proof.Machine
end

