-- ==== Sys2Proof/Laws/PerInstr.lean ====
section
/-! SUPPORT. For each command: if it is well formed and travels as a forward frame, that frame passes the frame check of
R135, but for the row whose frame fails it. -/

namespace Sys2Proof.Laws.ForwardFrame

open Sys2Proof.Machine

/-- The row whose frame fails its check. -/
def damaged : Instr → Bool
  | .forwardFrameFailingItsCheck _ => true
  | _ => false

/-- A well-formed command's forward frame, if it has one, passes the check unless the row is the failing one. -/
def Statement (i : Instr) : Prop :=
  ∀ (node : Fin 4) (f : Frame), i.wf = true → forwardFrameOf node i = some f → passesForward f = !damaged i

theorem of_none {i : Instr} (h : ∀ node, forwardFrameOf node i = none) : Statement i :=
  fun node _ _ hf => nomatch (h node).symm.trans hf

theorem of_frame {i : Instr} {g : Fin 4 → Frame} (hg : ∀ node, forwardFrameOf node i = some (g node))
    (hp : i.wf = true → ∀ node, passesForward (g node) = !damaged i) : Statement i := by
  intro node f hw hf
  rw [hg node] at hf
  cases hf
  exact hp hw node

theorem of_control {i : Instr} {code : Word} {params : List Word}
    (hg : ∀ node, forwardFrameOf node i = some (controlFrame node code params))
    (hw : i.wf = true → paramsFit params = true) (hd : damaged i = false) : Statement i :=
  of_frame hg fun h node => by
    have hp := hw h
    simp only [paramsFit] at hp
    simp [hd, hp]

theorem sample (path spare position samples) : Statement (.sample path spare position samples) :=
  of_frame (fun _ => rfl) fun _ _ => passes_sampleFrame path spare position samples
theorem burstOpen (path spare declared level) : Statement (.burstOpen path spare declared level) :=
  of_frame (fun _ => rfl) fun _ _ => passes_burstOpenFrame path spare declared level
theorem burstClose (path spare) : Statement (.burstClose path spare) :=
  of_frame (fun _ => rfl) fun _ _ => passes_burstCloseFrame path spare
theorem levelStep (path spare level) : Statement (.levelStep path spare level) :=
  of_frame (fun _ => rfl) fun _ _ => passes_levelStepFrame path spare level
theorem segment (index words) : Statement (.segment index words) :=
  of_frame (fun _ => rfl) fun h node => (passes_segmentFrame node index words).trans h
theorem forwardPassThrough (frame) : Statement (.forwardPassThrough frame) := of_frame (fun _ => rfl) fun h _ =>
  (Bool.and_eq_true_iff.mp (Bool.and_eq_true_iff.mp h).1).2
theorem forwardOutputSent : Statement .forwardOutputSent := of_none fun _ => rfl
theorem telemetry (a b c d e f) : Statement (.telemetry a b c d e f) := of_none fun _ => rfl
theorem returnFrame (frame) : Statement (.returnFrame frame) := of_none fun _ => rfl
theorem mergeArbiterChoice : Statement .mergeArbiterChoice := of_none fun _ => rfl
theorem binExpiry (m) : Statement (.binExpiry m) := of_none fun _ => rfl
theorem holdExpiry (m) : Statement (.holdExpiry m) := of_none fun _ => rfl
theorem silenceTimerExpiry (m) : Statement (.silenceTimerExpiry m) := of_none fun _ => rfl
theorem graceExpiry (p) : Statement (.graceExpiry p) := of_none fun _ => rfl
theorem gapTimerExpiry : Statement .gapTimerExpiry := of_none fun _ => rfl
theorem commitCompletion : Statement .commitCompletion := of_none fun _ => rfl
theorem testRunCompletion (a b c) : Statement (.testRunCompletion a b c) := of_none fun _ => rfl
theorem powerUpTestsCompletion (tableStore ringStore) : Statement (.powerUpTestsCompletion tableStore ringStore) :=
  of_none fun _ => rfl
theorem scrubCompletion (m) : Statement (.scrubCompletion m) := of_none fun _ => rfl
theorem ringStoreBinExamination (m bin found) : Statement (.ringStoreBinExamination m bin found) :=
  of_none fun _ => rfl
theorem resetPinAssertion : Statement .resetPinAssertion := of_none fun _ => rfl
theorem resetPinRelease (nsel1 nsel0) : Statement (.resetPinRelease nsel1 nsel0) := of_none fun _ => rfl
theorem droopAssertingEdge : Statement .droopAssertingEdge := of_none fun _ => rfl
theorem droopReleasingEdge : Statement .droopReleasingEdge := of_none fun _ => rfl
theorem identify (params) : Statement (.identify params) := of_control (fun _ => rfl) id rfl
theorem readStatus (params) : Statement (.readStatus params) := of_control (fun _ => rfl) id rfl
theorem setPath (params) : Statement (.setPath params) := of_control (fun _ => rfl) id rfl
theorem setModule (params) : Statement (.setModule params) := of_control (fun _ => rfl) id rfl
theorem setLimits (params) : Statement (.setLimits params) := of_control (fun _ => rfl) id rfl
theorem setDevice (params) : Statement (.setDevice params) := of_control (fun _ => rfl) id rfl
theorem loadOpen (params) : Statement (.loadOpen params) := of_control (fun _ => rfl) id rfl
theorem loadAbort (params) : Statement (.loadAbort params) := of_control (fun _ => rfl) id rfl
theorem commit (params) : Statement (.commit params) := of_control (fun _ => rfl) id rfl
theorem govern (params) : Statement (.govern params) := of_control (fun _ => rfl) id rfl
theorem standby (params) : Statement (.standby params) := of_control (fun _ => rfl) id rfl
theorem clearLatch (params) : Statement (.clearLatch params) := of_control (fun _ => rfl) id rfl
theorem snapshot (params) : Statement (.snapshot params) := of_control (fun _ => rfl) id rfl
theorem readEntry (params) : Statement (.readEntry params) := of_control (fun _ => rfl) id rfl
theorem runTests (params) : Statement (.runTests params) := of_control (fun _ => rfl) id rfl
theorem softRestart (params) : Statement (.softRestart params) := of_control (fun _ => rfl) id rfl
theorem hardReset (params nsel1 nsel0) : Statement (.hardReset params nsel1 nsel0) := of_control (fun _ => rfl) id rfl
theorem unknownCommand (code params) : Statement (.unknownCommand code params) :=
  of_control (fun _ => rfl) (fun h => (Bool.and_eq_true_iff.mp h).2) rfl
theorem forwardFrameFailingItsCheck (frame) : Statement (.forwardFrameFailingItsCheck frame) :=
  of_frame (fun _ => rfl) fun h _ => by
  simpa [damaged] using (Bool.and_eq_true_iff.mp h).2

end Sys2Proof.Laws.ForwardFrame
end

