-- ==== Sys2Proof/Laws/Reports.lean ====
section
/-! SUPPORT. What offering a report leaves in the Report Queue (R160, R161); on an idle lane the entry is followed by a
choice (R142), which Laws/State.lean describes. -/

namespace Sys2Proof.Machine

/-- The queue after `r` is offered to a queue that holds `rs`. -/
def queueAfter (r : Report) (rs : List Report) : List Report :=
  match reportClass r with
  | .answer => if rs.length < Config.reportQueueSize then rs ++ [r] else rs
  | .notice =>
    if rs.length < Config.sharedQueueSize then rs ++ [r]
    else if rs.any isVerdict then dropOldestVerdict rs ++ [r] else rs
  | .verdict => if rs.length < Config.sharedQueueSize then rs ++ [r] else rs

/-- On a busy lane nothing leaves the queue, so what an offer leaves in it follows from what it held. -/
theorem offer_reports (r : Report) {s : State} (hl : s.returnLane.isSome = true) :
    (offer r s).reports = queueAfter r s.reports := by
  unfold offer queueAfter
  rw [enqueue_busy r hl,
    enqueue_busy (s := reportLost { s with reports := dropOldestVerdict s.reports }) r hl]
  cases reportClass r <;> dsimp only <;> repeat' split
  all_goals rfl

/-- An answer enters while the queue holds fewer than 16. -/
theorem offer_answer_enters {r : Report} {s : State} (hc : reportClass r = .answer) (h : s.reports.length < 16) :
    offer r s = enqueue r s := by
  unfold offer
  rw [hc]
  exact if_pos h

/-- A notice or a verdict enters while the queue holds fewer than 14. -/
theorem offer_shared_enters {r : Report} {s : State} (hc : reportClass r ≠ .answer) (h : s.reports.length < 14) :
    offer r s = enqueue r s := by
  unfold offer
  cases hr : reportClass r
  · exact absurd hr hc
  · exact if_pos h
  · exact if_pos h

/-- Removing the oldest verdict removes one report. -/
theorem dropOldestVerdict_length (rs : List Report) (h : rs.any isVerdict = true) :
    (dropOldestVerdict rs).length + 1 = rs.length := by
  induction rs with
  | nil => cases h
  | cons b bs ih =>
    unfold dropOldestVerdict
    by_cases hb : isVerdict b = true
    · rw [if_pos hb]; rfl
    · rw [if_neg hb]
      have h2 : bs.any isVerdict = true := by
        rw [List.any_cons, Bool.or_eq_true] at h
        exact h.resolve_left hb
      exact congrArg (· + 1) (ih h2)

/-- The oldest verdict is the one that goes. -/
theorem dropOldestVerdict_eq {before after : List Report} {v : Report} (hv : isVerdict v = true)
    (hb : ∀ u ∈ before, isVerdict u = false) : dropOldestVerdict (before ++ v :: after) = before ++ after := by
  induction before with
  | nil =>
    show dropOldestVerdict (v :: after) = after
    unfold dropOldestVerdict
    exact if_pos hv
  | cons b bs ih =>
    show dropOldestVerdict (b :: (bs ++ v :: after)) = b :: (bs ++ after)
    have h0 : ¬ isVerdict b = true := by
      rw [hb b (List.mem_cons_self ..)]
      decide
    unfold dropOldestVerdict
    rw [if_neg h0, ih fun u hu => hb u (List.mem_cons_of_mem b hu)]

end Sys2Proof.Machine
end

