-- ==== Sys2Proof/Tests/Slice0.lean ====
section
/-! SUPPORT. The model's own tests: each check of `Instr.wf` refuses an ill-formed term; single events of the spec's
worked examples; and for every statement with hypotheses, states and operands that meet them, clause by clause. -/

namespace Sys2Proof.Tests

open Sys2Proof.Machine Sys2Proof.Claim

-- One test at a time: many at once ask for more threads than the check's memory limit gives.
set_option Elab.async false

/-! ### Small states -/

/-- The state a command leaves. -/
def after (c : Instr) (s : State) : State :=
  match exec c s with
  | .next t => t
  | .fault _ => s
  | .refused _ => s

def wordsFrom (f : Nat → Nat) (k : Nat) : Nat → List Word
  | 0 => []
  | n + 1 => BitVec.ofNat 16 (f k) :: wordsFrom f (k + 1) n

theorem wordsFrom_length (f : Nat → Nat) : ∀ n k, (wordsFrom f k n).length = n
  | 0, _ => rfl
  | n + 1, k => congrArg (· + 1) (wordsFrom_length f n (k + 1))

/-- A profile given word by word. -/
def madeProfile (f : Nat → Nat) : Profile := ⟨(wordsFrom f 0 410).toArray, wordsFrom_length f 410 0⟩

theorem getElem?_wordsFrom (f : Nat → Nat) :
    ∀ n k i, i < n → (wordsFrom f k n)[i]? = some (BitVec.ofNat 16 (f (k + i)))
  | 0, _, _, h => absurd h (Nat.not_lt_zero _)
  | _ + 1, _, 0, _ => rfl
  | n + 1, k, i + 1, h => by
    show (wordsFrom f (k + 1) n)[i]? = _
    rw [getElem?_wordsFrom f n (k + 1) i (by omega), Nat.add_assoc, Nat.add_comm 1 i]

theorem profileWord_madeProfile (f : Nat → Nat) (i : Nat) (h : i < 410) :
    profileWord (madeProfile f) i = BitVec.ofNat 16 (f i) := by
  rw [profileWord, madeProfile, Vector.getElem?_mk, List.getElem?_toArray, getElem?_wordsFrom f 410 0 i h, Nat.zero_add]
  rfl

/-- The energy thresholds of section 11.1, with higher values above the first three. -/
def callThresholds : List Nat := [10000000, 30000000, 200000000, 210000000, 220000000, 230000000, 240000000]

/-- The profile of section 11.1, with the clamp parameters of section 11.2. -/
def callWord (i : Nat) : Nat :=
  if i < 256 then
    let hot := decide (3 ≤ i / 32)
    match i % 4 with
    | 0 => if hot then 8 else 0
    | 1 => if hot || decide (2 ≤ i % 32 / 4) then 636 else 65535
    | 2 => 20000
    | _ => if hot then 1 else 0
  else if i < 270 then
    let v := callThresholds.getD ((i - 256) / 2) 0
    if i % 2 = 0 then v / 65536 else v % 65536
  else if i < 277 then 160 + 40 * (i - 270)
  else if i = 277 then 12
  else if i = 278 then 24
  else if i = 279 then 25
  else if i = 280 then 8
  else if i = 281 then 3
  else if i < 282 + 52 then 10
  else if i < 282 + 60 then 600
  else if i < 282 + 90 then 1000
  else if i < 282 + 96 then 6000
  else 8192

def callProfile : Profile := madeProfile callWord

def callActive : ActiveProfile := ⟨callProfile, profileCheck callProfile⟩

/-- Module 0 of section 11.1: FRESH at 236, grade 2, NORMAL. -/
def callModule : ModuleState :=
  { ModuleState.reset with
    context := { ModuleContext.reset with telemetry := .fresh, filtered := some 236, thermalGrade := 2 },
    throttle := { ThrottleContext.reset with state := .normal },
    active := some callActive }

def standbyPart : State := { State.reset with deviceState := .standby }

/-- GOVERNING, every module as `callModule`, path 0 of class VOICE. -/
def governingPart : State :=
  setPathAt 0 { PathContext.reset 0 with trafficClass := .voice }
    { State.reset with deviceState := .governing, modules := #v[callModule, callModule, callModule, callModule] }

/-- A data burst of 64 frames granted at level 90, next position 4. -/
def dataBurst : BurstRecord :=
  { declared := 64, requested := 90, granted := .code 90, weight := 6000, backoff := some 0, verdict := .pass,
    next := 4, forwarded := 4, lowered := false, grace := 68 }

def blankedBurst : BurstRecord :=
  { dataBurst with granted := .off, weight := 0, backoff := none, verdict := .blank .notAdmitted, next := 0, forwarded := 0 }

/-- Path 1 carries `b`, whose share stands in module 0's accounts. -/
def burstPart (b : BurstRecord) (a : Accounts) : State :=
  setPathAt 1 { PathContext.reset 0 with burst := some b }
    (setModuleAt 0 { callModule with accounts := a } governingPart)

def dataPart : State := burstPart dataBurst ⟨6000, 60⟩
def blankedPart : State := burstPart blankedBurst ⟨0, 0⟩

/-- Module `m` with another throttle context. -/
def throttled (m : ModuleId) (t : ThrottleContext) (s : State) : State := setThrottle m t s

def clampedContext : ThrottleContext := ⟨.clamped, 24, some 100, 1, 1⟩
def releasingContext : ThrottleContext := ⟨.releasing, 16, none, 2, 1⟩
def latchedContext : ThrottleContext := ⟨.latched, 24, none, 3, 1⟩

def offlinePart : State := after .resetPinAssertion governingPart
def lockdownPart : State := { standbyPart with deviceState := .lockdown, lockdownCause := .test }
def testingPart : State := { standbyPart with deviceState := .testing, longCommand := .runTests 0xF }
def openLoad : LoadContext := { start := 2, count := 3, expected := 3, taken := 1, gapCode := 5, gapTimer := 400 }
def loadingPart : State := { standbyPart with shadowState := .loading, load := some openLoad }
def readyPart : State := { governingPart with shadow := callProfile, shadowState := .ready }
def committingPart : State :=
  { readyPart with shadowState := .committing, longCommand := .commit 0 (profileCheck callProfile) }

def verdictReport : Report := .burstVerdict 0 0 .pass 60 (.code 60) 8 2 0 1000 0
def noticeReport : Report := .throttleNotice 1 .normal .clamped (.criterion .overcurrent) 1 24
def answerReport : Report := .answer 0x0001 .done []

/-- The 13 reports of section 11.4, V1 to V5, A1, V6 to V11, A2. -/
def thirteen : List Report :=
  List.replicate 5 verdictReport ++ [answerReport] ++ List.replicate 6 verdictReport ++ [answerReport]

def waitingFrame : Frame := telemetryFrame 0 0 1 100 0 0

/-- The part while its return lane sends a frame, so that what enters the queue or the buffer waits there. -/
def sending (s : State) : State := { s with returnLane := some waitingFrame }

/-- A body of more than 65535 words is more than a length word counts. -/
theorem body_too_long (f : Frame) (h : 65536 ≤ f.body.length) : f.bodyFits = false :=
  decide_eq_false (by omega)

/-! ### Well-formedness: every check refuses an ill-formed term -/

theorem test_wf_refuses_a_sample_frame_too_long :
    ∀ samples : List Word, 65535 ≤ samples.length → (Instr.sample 0 0 0 samples).wf = false :=
  fun _ h => decide_eq_false (by omega)

theorem test_wf_refuses_a_segment_of_31_words : (Instr.segment 0 (List.replicate 31 0)).wf = false := by decide +kernel

theorem test_wf_refuses_a_passing_through_of_a_failing_frame :
    (Instr.forwardPassThrough ⟨0x5000, [], 0⟩).wf = false := by decide +kernel

theorem test_wf_refuses_a_passing_through_of_a_path_kind :
    (Instr.forwardPassThrough (burstCloseFrame 0 0)).wf = false := by decide +kernel

theorem test_wf_refuses_a_passing_through_too_long :
    ∀ f : Frame, 65536 ≤ f.body.length → (Instr.forwardPassThrough f).wf = false := by
  intro f h
  show (f.bodyFits && _ && _) = false
  rw [body_too_long f h, Bool.false_and, Bool.false_and]

theorem test_wf_refuses_telemetry_as_another_return_frame :
    (Instr.returnFrame (telemetryFrame 0 0 1 100 0 0)).wf = false := by decide +kernel

theorem test_wf_refuses_a_return_frame_too_long :
    ∀ f : Frame, 65536 ≤ f.body.length → (Instr.returnFrame f).wf = false := by
  intro f h
  show (f.bodyFits && _) = false
  rw [body_too_long f h, Bool.false_and]

theorem test_wf_refuses_thirteen_parameters :
    (∀ b : Bool, ∀ c ∈ [Instr.identify, .readStatus, .setPath, .setModule, .setLimits, .setDevice, .loadOpen,
      .loadAbort, .commit, .govern, .standby, .clearLatch, .snapshot, .readEntry, .runTests, .softRestart,
      (.hardReset · b b), .unknownCommand 0x12], (c (List.replicate 13 0)).wf = false ∧
        (c (List.replicate 12 0)).wf = true) := by
  decide +kernel

theorem test_wf_refuses_an_unknown_command_with_a_known_code : (Instr.unknownCommand 0x0011 []).wf = false := by
  decide +kernel

theorem test_wf_refuses_a_failing_frame_that_passes :
    (Instr.forwardFrameFailingItsCheck (burstCloseFrame 0 0)).wf = false := by decide +kernel

theorem test_wf_refuses_a_failing_frame_too_long :
    ∀ f : Frame, 65536 ≤ f.body.length → (Instr.forwardFrameFailingItsCheck f).wf = false := by
  intro f h
  show (f.bodyFits && _) = false
  rw [body_too_long f h, Bool.false_and]

theorem test_wf_takes_well_formed_frames :
    (Instr.sample 7 0x1FF 64 [1, 2]).wf = true ∧ (Instr.segment 12 (List.replicate 32 0)).wf = true ∧
    (Instr.forwardPassThrough (controlFrame 3 1 [])).wf = true ∧ (Instr.returnFrame ⟨0xC000, [], 0⟩).wf = true ∧
    (Instr.forwardFrameFailingItsCheck ⟨0x3000, [], 0⟩).wf = true := by decide +kernel

/-! ### Frames and check values -/

/-- The two check values of the words 0x3132, 0x3334, 0x3536, 0x3738, computed outside Lean from R135 and R12. -/
theorem test_check_values_of_four_words :
    crc16 [0x3132, 0x3334, 0x3536, 0x3738] = 0xA12B ∧
    crc32 [0x3132, 0x3334, 0x3536, 0x3738] = 0x49E3C2FB := by decide +kernel

/-- The headers written out from R134 and R146: kind, ignored bits, path or node. -/
theorem test_headers_as_laid_out :
    (sampleFrame 5 0 0 []).header = 0x1005#16 ∧ (burstOpenFrame 7 0x1FF 8 60).header = 0x2FFF#16 ∧
    (burstCloseFrame 1 0).header = 0x3001#16 ∧ (levelStepFrame 2 0 76).header = 0x4002#16 ∧
    (controlFrame 3 1 []).header = 0x8003#16 ∧ (segmentFrame 2 0 []).header = 0x9002#16 ∧
    (telemetryFrame 0xABC 0 0 0 0 0).header = 0xCABC#16 ∧ (reportFrame 1 true answerReport).header = 0xD001#16 ∧
    (reportFrame 1 true answerReport).body = [0x8001#16, 0x0001#16, 0x0000#16] := by decide +kernel

/-- The body words of the other report kinds, written out from R148 and R149. -/
theorem test_report_bodies :
    (reportFrame 0 false noticeReport).body = [4, 1, 1, 2, 1, 1, 24] ∧
    (reportFrame 0 true verdictReport).body = [0x8005, 0, 0, 0x0100, 60, 60, 8, 2, 0, 0, 1000, 0] ∧
    (reportFrame 0 false (.loadResult .order 2 3 1 (some 4))).body = [2, 1, 2, 3, 1, 4] ∧
    (reportFrame 0 false (.deviceState .lockdown ⟨8, some .profileCheck, some (.profileOf 3)⟩ (.scrub 2))).body =
      [3, 5, 8, 4, 3, 2, 2] := by decide +kernel

/-- The thermal thresholds, the weights and a record of the profile of section 11.1 as R150 places them. -/
theorem test_profile_fields :
    thermalThreshold callProfile 3 = 240 ∧ hysteresis callProfile = 12 ∧ weight callProfile 52 = 600 ∧
    weight callProfile 60 = 1000 ∧ weight callProfile 90 = 6000 ∧ energyThreshold callProfile 2 = 30000000 ∧
    readRecord callProfile 3 2 = ⟨8, some 636, 20000, .voiceAndSignalling⟩ ∧
    readRecord callProfile 2 1 = ⟨0, none, 20000, .all⟩ := by decide +kernel

theorem call_weights_in_order : weightOrder callProfile = true :=
  List.all_eq_true.mpr fun g hg => decide_eq_true (by
    have h : g < 127 := List.mem_range.mp hg
    show (profileWord callProfile _).toNat ≤ (profileWord callProfile _).toNat
    rw [callProfile, profileWord_madeProfile _ _ (by omega), profileWord_madeProfile _ _ (by omega)]
    clear hg
    revert g
    decide +kernel)

theorem call_orders : inRange callProfile = true ∧ thermalOrder callProfile = true ∧ energyOrder callProfile = true ∧
    backoffOrder callProfile = true ∧ allowanceOrder callProfile = true ∧ admitOrder callProfile = true := by
  decide +kernel

theorem test_the_call_profile_passes_a_commit :
    commitFailure callProfile (profileCheck callProfile) = none := by
  obtain ⟨h1, h2, h3, h4, h5, h6⟩ := call_orders
  unfold commitFailure
  rw [if_neg (not_not_intro rfl), h1, h2, h3, h4, h5, h6, call_weights_in_order]
  rfl

/-! ### Events of the worked examples -/

/-- Section 11.1 at 1,400: reading 256 carries 236 to 241, and the grade from 2 to 3. -/
theorem test_telemetry_filters_and_grades :
    (moduleAt (after (.telemetry 0 0 1 256 0 0) governingPart) 0).context.filtered = some 241 ∧
    (moduleAt (after (.telemetry 0 0 1 256 0 0) governingPart) 0).context.thermalGrade = 3 := by decide +kernel

/-- Section 2.8: reading 220 carries 243 to 237, rounded toward negative infinity, and leaves grade 3. -/
theorem test_telemetry_rounds_downward :
    filterStep 243 220 2 = 237 ∧ filterStep 237 180 2 = 222 ∧ regrade callProfile 237 3 = 3 ∧
    regrade callProfile 222 3 = 2 := by decide +kernel

/-- Section 11.1 at 1,440: a sum equal to the allowance passes, one above it is blanked DUTY. -/
theorem test_duty_at_the_cap :
    let s := fun n => setModuleAt 0 { callModule with ring := { Ring.reset with energyGrade := 2, windowFrames := n } }
      governingPart
    (pathAt (after (.burstOpen 0 0 8 60) (s 10168)) 0).burst.map (·.verdict) = some .pass ∧
    (pathAt (after (.burstOpen 0 0 8 60) (s 10169)) 0).burst.map (·.verdict) = some (.blank .duty) := by
  decide +kernel

/-- Section 11.2 at 1,496 and 1,500: granted 84, TRIM(CLAMP), then lowered to 76 at the latch entry. -/
theorem test_clamp_trims_then_lowers :
    let s := throttled 1 releasingContext governingPart
    let t := { after (.burstOpen 2 0 64 100) s with forwardOutput := [] }
    let u := clampEntry 1 (throttled 1 latchedContext t)
    (pathAt t 2).burst.map (fun b => (b.granted, b.verdict)) = some (.code 84, .trim .clamp) ∧
    (pathAt u 2).burst.map (·.granted) = some (.code 76) ∧
    u.forwardOutput.map (·.body) = [[76#16]] ∧ (pathAt u 2).counters.lowered = 1 := by decide +kernel

/-- Section 11.4: V13 is dropped, then N1 displaces V1. -/
theorem test_queue_takes_by_class :
    let s := { sending standbyPart with reports := thirteen ++ [verdictReport] }
    let t := offer verdictReport s
    let u := offer noticeReport t
    t.reports = s.reports ∧ t.reportGap = true ∧ t.status = 8 ∧
    u.reports = List.replicate 4 verdictReport ++ [answerReport] ++ List.replicate 6 verdictReport ++
      [answerReport, verdictReport, noticeReport] := by decide +kernel

/-- Section 4.11: a frame that skips a position takes both places off the committed frames. -/
theorem test_sample_skips_a_position :
    let t := after (.sample 1 0 6 [7]) dataPart
    (pathAt t 1).burst.map (fun b => (b.next, b.forwarded)) = some (7, 5) ∧
    (moduleAt t 0).accounts = ⟨6000, 57⟩ ∧ (moduleAt t 0).ring.windowEnergy = 6000 := by decide +kernel

/-- Section 4.11: a step to 80 on a burst with backoff 0 grants 80. -/
theorem test_level_step_lowers :
    (pathAt (after (.levelStep 1 0 80) dataPart) 1).burst.map (fun b => (b.granted, b.weight)) =
      some (.code 80, 1000) := by decide +kernel

/-- Section 11.2: OVERCURRENT above the limit clamps a NORMAL module with a hold of 200 ms. -/
theorem test_overcurrent_clamps :
    let s := setContext 1 { callModule.context with mask := 1, currentLimit := 1800 } governingPart
    (moduleAt (after (.telemetry 0 1 2 0 1950 0) s) 1).throttle = ⟨.clamped, 24, some 1600, 1, 1⟩ ∧
    (moduleAt (after (.telemetry 0 1 2 0 1800 0) s) 1).throttle.state = .normal := by decide +kernel

/-- Section 7.9: a segment out of place ends the load ORDER. -/
theorem test_segment_out_of_place :
    let t := after (.segment 4 (List.replicate 32 1)) (sending loadingPart)
    t.shadowState = .incomplete ∧ t.reports = [.loadResult .order 2 3 1 (some 4)] ∧ t.load = none := by
  decide +kernel

/-- Section 11.3: a commit whose strike count is at the new limit latches, with a notice. -/
theorem test_commit_latches :
    let t := throttleTakesCommit 0 callProfile (sending (throttled 0 ⟨.releasing, 8, none, 3, 0⟩ committingPart))
    (moduleAt t 0).throttle = ⟨.latched, 24, none, 3, 0⟩ ∧
    t.reports = [.throttleNotice 0 .releasing .latched .commit 3 24] := by decide +kernel

/-- R18, R159: during a commit READ ENTRY of kind 2 returns the shadow in COMMITTING; other kinds are answered BUSY. -/
theorem test_the_shadow_is_read_during_a_commit :
    let s := sending committingPart
    (after (.readEntry [2, 12, 0]) s).reports =
      [.answer 0x000E .done ([2, 12, 0, 4, 0xFFFF, 0xFFFF] ++
        (List.range 32).map fun j => profileWord callProfile (384 + j))] ∧
    (after (.readEntry [2, 13, 0]) s).reports = [.answer 0x000E .range []] ∧
    (after (.readEntry [3, 0, 0]) s).reports = [.answer 0x000E .busy []] := by decide +kernel

/-- The arbiter sends a report after four radio frames. -/
theorem test_arbiter_sends_a_report_after_four :
    let s := { sending standbyPart with returnBuffer := [waitingFrame], reports := [answerReport] }
    (after .mergeArbiterChoice { s with runCount := 3 }).runCount = 4 ∧
    (after .mergeArbiterChoice { s with runCount := 4 }).reports = [] := by decide +kernel

/-- R142: on an idle lane the answer goes out at once, and the radio frame that comes after it waits. -/
theorem test_an_idle_lane_sends_at_once :
    let t := after (.identify []) standbyPart
    let u := after (.returnFrame (sealFrame 0x1000 [7])) t
    t.returnLane.map (·.body) = some [1, 0x0001, 0, 0x0E27, 0x0024, 0x0010, 0, 2] ∧ t.reports = [] ∧
    u.returnLane = t.returnLane ∧ u.returnBuffer = [sealFrame 0x1000 [7]] ∧ u.runCount = 0 := by decide +kernel

/-- R142: so does a radio frame. -/
theorem test_an_idle_lane_sends_a_radio_frame_at_once :
    let t := after (.returnFrame (sealFrame 0x1000 [7])) standbyPart
    t.returnLane = some (sealFrame 0x1000 [7]) ∧ t.returnBuffer = [] ∧ t.runCount = 0 := by decide +kernel

/-- R133: the straps are sampled at the release of the reset pin and at HARD RESET, not at the pin's assertion. -/
theorem test_node_number_is_sampled_at_a_release :
    let s := { standbyPart with nsel1 := true, nsel0 := true }
    (after .resetPinAssertion s).nodeNumber = 0 ∧
    (after (.resetPinRelease true false) (after .resetPinAssertion s)).nodeNumber = 2 ∧
    (after (.hardReset [] true true) s).nodeNumber = 3 := by decide +kernel

/-- The two frames that wait are taken one after the other while the output stays empty; the third waits on. -/
theorem test_waiting_frames_are_taken_in_order :
    let s := { standbyPart with
      forwardOutput := [burstCloseFrame 3 0],
      modemWaiting := [burstCloseFrame 0 0, sealFrame 0x5000 [1], sealFrame 0x5000 [2]] }
    let t := after .forwardOutputSent s
    (pathAt t 0).counters.dropped = 1 ∧ t.forwardOutput = [sealFrame 0x5000 [1]] ∧
    t.modemWaiting = [sealFrame 0x5000 [2]] := by decide +kernel

theorem test_full_queue_discards_a_command_but_not_a_hard_reset :
    let s := { sending standbyPart with reports := List.replicate 16 answerReport }
    (after (.snapshot [1]) s).status = 8 ∧ (after (.snapshot [1]) s).reports = s.reports ∧
    (after (.hardReset [] true false) s).nodeNumber = 2 ∧
    (after (.hardReset [] true false) s).deviceState = .selftest := by decide +kernel

/-! ### States and operands that meet the hypotheses of the statements

One theorem for each statement that has hypotheses, named after it; its clauses follow the statement's. -/

theorem witness_AStepTakesTheFrontCommand :
    { standbyPart with pending := [.standby [], .govern []] }.pending = .standby [] :: [.govern []] := rfl

/-- No command waits, and the device is not OFFLINE. -/
abbrev Clear (s : State) : Prop := s.pending = [] ∧ s.deviceState ≠ .offline

abbrev NoBin (s : State) : Prop := ∀ m, (moduleAt s m).ring.binTimer ≠ 0
abbrev NoHold (s : State) : Prop := ∀ m, (moduleAt s m).throttle.holdTimer ≠ some 0
abbrev NoSilence (s : State) : Prop := ∀ m, (moduleAt s m).context.silenceTimer ≠ some 0
abbrev NoGrace (s : State) : Prop := ∀ p, (pathAt s p).burst.map (·.grace) ≠ some 0

/-- A timer of module 3, path 7 or the load is due, alone; nothing is due. -/
theorem witness_AnEmptyQueueLetsTheDueEventOrTimePass :
    let bin := setRing 3 { Ring.reset with binTimer := 0 } governingPart
    let hold := throttled 3 { clampedContext with holdTimer := some 0 } governingPart
    let silence := setContext 3 { callModule.context with silenceTimer := some 0 } governingPart
    let grace := setBurst 7 (some { dataBurst with grace := 0 }) governingPart
    let gap := { loadingPart with load := some { openLoad with gapTimer := 0 } }
    (Clear bin ∧ (moduleAt bin 3).ring.binTimer = 0 ∧ ∀ n < 3, (moduleAt bin n).ring.binTimer ≠ 0) ∧
    (Clear hold ∧ NoBin hold ∧ (moduleAt hold 3).throttle.holdTimer = some 0 ∧
      ∀ n < 3, (moduleAt hold n).throttle.holdTimer ≠ some 0) ∧
    (Clear silence ∧ NoBin silence ∧ NoHold silence ∧ (moduleAt silence 3).context.silenceTimer = some 0 ∧
      ∀ n < 3, (moduleAt silence n).context.silenceTimer ≠ some 0) ∧
    (Clear grace ∧ NoBin grace ∧ NoHold grace ∧ NoSilence grace ∧ (pathAt grace 7).burst.map (·.grace) = some 0 ∧
      ∀ q < 7, (pathAt grace q).burst.map (·.grace) ≠ some 0) ∧
    (Clear gap ∧ NoBin gap ∧ NoHold gap ∧ NoSilence gap ∧ NoGrace gap ∧ gap.load.map (·.gapTimer) = some 0) ∧
    (Clear standbyPart ∧ NoBin standbyPart ∧ NoHold standbyPart ∧ NoSilence standbyPart ∧ NoGrace standbyPart ∧
      standbyPart.load.map (·.gapTimer) ≠ some 0) := by
  refine ⟨?_, ?_, ?_, ?_, ?_, ?_⟩ <;> decide +kernel

theorem witness_TheResetsReturnEveryBlockToItsResetValues :
    (List.replicate 12 (0 : Word)).length ≤ 12 ∧ PortOpen dataPart := by decide +kernel

theorem witness_InOfflineOnlyThePinsAct :
    offlinePart.deviceState = .offline ∧ OperationsAgree offlinePart ∧ ScrubsLawful offlinePart := by decide +kernel

/-- The first and the last place in position: the next position, and the declared length less one. -/
theorem witness_ASampleInPositionIsForwardedAndAccrued :
    PortOpen dataPart ∧ (pathAt dataPart 1).burst = some dataBurst ∧ dataBurst.granted = .code 90 ∧
    (dataBurst.next ≤ (4 : Word).toNat ∧ (4 : Word).toNat < dataBurst.declared) ∧
    (dataBurst.next ≤ (63 : Word).toNat ∧ (63 : Word).toNat < dataBurst.declared) := by decide +kernel

/-- Just before the next position, at the declared length, on a blanked burst, on an IDLE path. -/
theorem witness_ASampleNotInPositionIsDropped :
    PortOpen dataPart ∧ PortOpen blankedPart ∧
    ((pathAt dataPart 1).burst = some dataBurst ∧ dataBurst.granted = .code 90 ∧
      (3 : Word).toNat < dataBurst.next ∧ dataBurst.declared ≤ (64 : Word).toNat) ∧
    ((pathAt blankedPart 1).burst = some blankedBurst ∧ blankedBurst.granted = .off) ∧
    (pathAt dataPart 0).burst = none := by decide +kernel

theorem witness_ABurstEndsByItsCloseOrItsGraceExpiry :
    dataPart.deviceState ≠ .offline ∧ PortOpen dataPart ∧ (pathAt dataPart 1).burst = some dataBurst := by
  decide +kernel

theorem witness_AMarkerOffAGrantedBurstChangesNoRecord :
    PortOpen blankedPart ∧ (pathAt blankedPart 0).burst = none ∧
    (pathAt blankedPart 1).burst = some blankedBurst ∧ blankedBurst.granted = .off := by decide +kernel

theorem witness_ALevelStepMovesAGrantedBurst :
    PortOpen dataPart ∧ (pathAt dataPart 1).burst = some dataBurst ∧ dataBurst.granted = .code 90 ∧
    dataBurst.backoff = some 0 := by decide +kernel

theorem witness_ACounterSaturatesOrWraps :
    (4294967295 : BitVec 32).toNat = 4294967295 ∧ (4294967294 : BitVec 32).toNat < 4294967295 := by decide

theorem witness_ABurstOpenAskingOffOpensNothing :
    PortOpen dataPart ∧ 127 < (128 : Word).toNat ∧ 127 < (0x00FF : Word).toNat ∧ (pathAt dataPart 0).burst = none ∧
    (pathAt dataPart 1).burst = some dataBurst := by decide +kernel

theorem witness_ABurstOpenInABurstTruncatesItFirst :
    PortOpen dataPart ∧ (127 : Word).toNat ≤ 127 ∧ (pathAt dataPart 1).burst = some dataBurst := by decide +kernel

/-- Path 1 disabled in STANDBY. -/
def pathOffPart : State := setPathAt 1 { PathContext.reset 0 with enabled := false } standbyPart

/-- Module 0 at thermal grade 3, where record (3, 0) admits no DATA. -/
def hotPart : State := setContext 0 { callModule.context with thermalGrade := 3 } governingPart

/-- Module 0 at energy grade 2 with this many window frames, where record (2, 2) allows 636 × 16. -/
def busyPart (frames : Nat) : State :=
  setRing 0 { Ring.reset with energyGrade := 2, windowFrames := frames } governingPart

theorem witness_ABurstIsBlankedByTheFirstTestThatApplies :
    (PortOpen lockdownPart ∧ (pathAt lockdownPart 1).burst = none ∧ lockdownPart.deviceState = .lockdown) ∧
    (PortOpen State.reset ∧ (pathAt State.reset 1).burst = none ∧ State.reset.deviceState = .selftest) ∧
    (PortOpen testingPart ∧ (pathAt testingPart 1).burst = none ∧ testingPart.deviceState = .testing) ∧
    (PortOpen pathOffPart ∧ (pathAt pathOffPart 1).burst = none ∧ pathOffPart.deviceState = .standby ∧
      (pathAt pathOffPart 1).enabled = false) ∧
    (Governed 1 callActive hotPart ∧
      admits (recordOf 1 callActive hotPart).classes (pathAt hotPart 1).trafficClass = false) ∧
    (Governed 1 callActive (busyPart 10113) ∧
      admits (recordOf 1 callActive (busyPart 10113)).classes (pathAt (busyPart 10113) 1).trafficClass = true ∧
      (recordOf 1 callActive (busyPart 10113)).allowance = some 636 ∧
      16 * 636 < 10113 + (moduleAt (busyPart 10113) 0).accounts.committed + lengthTaken 64) := by
  refine ⟨?_, ?_, ?_, ?_, ⟨⟨?_, ?_, ?_, ?_, rfl⟩, ?_⟩, ⟨⟨?_, ?_, ?_, ?_, rfl⟩, ?_, ?_, ?_⟩⟩ <;> decide +kernel

/-- STANDBY unprofiled, GOVERNING unprofiled, and STANDBY on a LATCHED profiled module. -/
theorem witness_ABurstIsHeldToTheCeilingAndTheClamp :
    let ready := fun s : State => PortOpen s ∧ (pathAt s 1).burst = none ∧ (pathAt s 1).enabled = true
    let bare := { standbyPart with deviceState := .governing }
    let latched := throttled 0 latchedContext { governingPart with deviceState := .standby }
    (ready standbyPart ∧ standbyPart.deviceState = .standby ∧ (moduleAt standbyPart 0).active = none) ∧
    (ready bare ∧ bare.deviceState = .governing ∧ (moduleAt bare 0).active = none) ∧
    (ready latched ∧ latched.deviceState = .standby ∧ (moduleAt latched 0).active = some callActive ∧
      clampOf (moduleAt latched 0).throttle = some 24) := by
  refine ⟨?_, ?_, ⟨?_, ?_, rfl, ?_⟩⟩ <;> decide +kernel

/-- Path 0 asks level 60 at grades (2, 0): it fits at once, or only from 51 down beside 19500 in flight. -/
def crowdedPart (inFlight : Nat) : State :=
  setAccounts 0 ⟨inFlight, 0⟩ governingPart

theorem passes_when_crowded (p : PathId) (hp : p = 0 ∨ p = 1) (n : Nat)
    (hm : (moduleAt (crowdedPart n) 0).context.thermalGrade = 2 ∧ (moduleAt (crowdedPart n) 0).ring.energyGrade = 0) :
    PassesClassAndDuty p callActive 8 (crowdedPart n) := by
  have hr : recordOf p callActive (crowdedPart n) = readRecord callProfile 2 0 := by
    rw [← hm.1, ← hm.2]
    rcases hp with rfl | rfl <;> rfl
  have h : readRecord callProfile 2 0 = ⟨0, none, 20000, .all⟩ := by decide +kernel
  refine ⟨?_, ?_⟩
  · rw [hr, h]
    rfl
  · rw [hr, h]
    intro k hk
    exact nomatch hk

theorem witness_ABurstIsGrantedTheHighestLevelThatFits :
    (Governed 0 callActive (crowdedPart 0) ∧ PassesClassAndDuty 0 callActive (lengthTaken 8) (crowdedPart 0) ∧
      backoffFor 0 callActive (crowdedPart 0) = 0 ∧ Fits callProfile 20000 0 60) ∧
    (Governed 0 callActive (crowdedPart 19500) ∧
      PassesClassAndDuty 0 callActive (lengthTaken 8) (crowdedPart 19500) ∧
      Fits callProfile 20000 19500 51 ∧ ∀ k ≤ 60, 51 < k → ¬ Fits callProfile 20000 19500 k) := by
  refine ⟨⟨⟨?_, ?_, ?_, ?_, rfl⟩, passes_when_crowded 0 (.inl rfl) 0 ?_, ?_, ?_⟩,
    ⟨⟨?_, ?_, ?_, ?_, rfl⟩, passes_when_crowded 0 (.inl rfl) 19500 ?_, ?_, ?_⟩⟩ <;> decide +kernel

/-- Headroom 20000 is taken: by a DATA burst of weight 20000 on path 1, or with nothing to pre-empt. -/
def heavyPart (held : Nat) : State :=
  setBurst 1 (some { dataBurst with weight := held }) (crowdedPart 20000)

theorem witness_AHigherClassPreemptsData :
    (∀ k ≤ 60, ¬ Fits callProfile 20000 20000 k) ∧
    (Governed 1 callActive (crowdedPart 20000) ∧ Governed 0 callActive (crowdedPart 20000) ∧
      PassesClassAndDuty 0 callActive (lengthTaken 8) (crowdedPart 20000) ∧ dataAbove0 (crowdedPart 20000) 0 = []) ∧
    (Governed 0 callActive (heavyPart 20000) ∧ PassesClassAndDuty 0 callActive (lengthTaken 8) (heavyPart 20000) ∧
      (pathAt (heavyPart 20000) 0).trafficClass ≠ .data ∧ dataAbove0 (heavyPart 20000) 0 = [1] ∧
      Fits callProfile 20000 (moduleAt (loweredTo0 [1] (heavyPart 20000)) 0).accounts.inFlight 60) ∧
    (Governed 0 callActive (heavyPart 10) ∧ PassesClassAndDuty 0 callActive (lengthTaken 8) (heavyPart 10) ∧
      dataAbove0 (heavyPart 10) 0 = [1] ∧
      ∀ k ≤ 60, ¬ Fits callProfile 20000 (moduleAt (loweredTo0 [1] (heavyPart 10)) 0).accounts.inFlight k) := by
  refine ⟨?_, ⟨⟨?_, ?_, ?_, ?_, rfl⟩, ⟨?_, ?_, ?_, ?_, rfl⟩, passes_when_crowded 0 (.inl rfl) 20000 ?_, ?_⟩,
    ⟨⟨?_, ?_, ?_, ?_, rfl⟩, passes_when_crowded 0 (.inl rfl) 20000 ?_, ?_, ?_, ?_⟩,
    ⟨⟨?_, ?_, ?_, ?_, rfl⟩, passes_when_crowded 0 (.inl rfl) 20000 ?_, ?_, ?_⟩⟩ <;> decide +kernel

/-- A module in NONE without a profile, and one FRESH at 236 with one. -/
theorem witness_ATemperatureReadingIsFilteredAndGraded :
    (1 : Word).getLsbD 0 = true ∧ (7 : Word).getLsbD 0 = true ∧
    (standbyPart.deviceState ≠ .offline ∧ (moduleAt standbyPart 3).context.telemetry ≠ .fresh ∧
      (moduleAt standbyPart 3).active = none ∧ (3 : Word).toNat = (3 : ModuleId).val) ∧
    (governingPart.deviceState ≠ .offline ∧ (moduleAt governingPart 0).context.telemetry = .fresh ∧
      (moduleAt governingPart 0).context.filtered = some 236 ∧ (moduleAt governingPart 0).active.isSome = true) := by
  decide +kernel

/-- A module word of 4; fields absent and present; readings at and above their limits. -/
theorem witness_ReadingsAboveTheirLimitsFire :
    let s := setContext 3 { callModule.context with currentLimit := 1800, reflectionLimit := 254 } governingPart
    s.deviceState ≠ .offline ∧ 3 < (4 : Word).toNat ∧ (3 : Word).toNat = (3 : ModuleId).val ∧
    (6 : Word).getLsbD 0 = false ∧ (6 : Word).getLsbD 1 = true ∧ (6 : Word).getLsbD 2 = true ∧
    (0 : Word).getLsbD 0 = false ∧ (0 : Word).getLsbD 1 = false ∧ (0 : Word).getLsbD 2 = false ∧
    (moduleAt s 3).context.currentLimit < (1801 : Word).toNat ∧
    ¬ (moduleAt s 3).context.currentLimit < (1800 : Word).toNat ∧
    (moduleAt s 3).context.reflectionLimit < 255 ∧ 255 < (256 : Word).toNat := by decide +kernel

/-- Not selected; CLAMPED; a strike below the limit of 3; the third strike. -/
theorem witness_AFiringActsByTheThrottleState :
    let masked := setContext 0 { callModule.context with mask := 31 } governingPart
    let with_ := fun t => throttled 0 t masked
    (moduleAt governingPart 0).context.mask.getLsbD (criterionBit .silence) = false ∧
    (moduleAt masked 0).context.mask.getLsbD (criterionBit .silence) = true ∧
    (moduleAt (with_ clampedContext) 0).active = some callActive ∧
    (moduleAt (with_ clampedContext) 0).throttle.state = .clamped ∧
    (moduleAt (with_ latchedContext) 0).throttle.state = .latched ∧
    ((moduleAt masked 0).throttle.state = .normal ∧
      (moduleAt masked 0).throttle.strikes + 1 < strikeLimit callProfile) ∧
    ((moduleAt (with_ releasingContext) 0).throttle.state = .releasing ∧
      strikeLimit callProfile ≤ (moduleAt (with_ releasingContext) 0).throttle.strikes + 1) := by
  refine ⟨?_, ?_, rfl, ?_, ?_, ⟨?_, ?_⟩, ?_, ?_⟩ <;> decide +kernel

theorem witness_AClampEntryLowersBurstsAboveTheirLimit : AccountsExact dataPart := by decide +kernel

theorem witness_SilenceAndDroopFireTheirCriteria :
    governingPart.deviceState ≠ .offline ∧ (moduleAt governingPart 0).context.silenceTimer.isSome = true ∧
    (moduleAt governingPart 0).context.telemetry = .fresh ∧
    (moduleAt standbyPart 0).context.silenceTimer.isSome = true ∧
    (moduleAt standbyPart 0).context.telemetry ≠ .fresh := by decide +kernel

/-- A module word of 4; LATCHED and NORMAL at CLEAR LATCH; a hold that runs, with the droop line released and held. -/
theorem witness_AClampIsReleasedByItsHoldOrByClearLatch :
    let latched := throttled 3 latchedContext governingPart
    let clamped := throttled 3 clampedContext (setContext 3 { callModule.context with mask := 8 } governingPart)
    let held := { clamped with droopLine := true }
    Executing governingPart ∧ 3 < (4 : Word).toNat ∧ (3 : Word).toNat = (3 : ModuleId).val ∧
    (Executing latched ∧ (moduleAt latched 3).throttle.state = .latched) ∧
    (moduleAt governingPart 3).throttle.state ≠ .latched ∧
    ((moduleAt clamped 3).active = some callActive ∧ (moduleAt clamped 3).throttle.state = .clamped ∧
      (moduleAt clamped 3).throttle.holdTimer.isSome = true ∧ clamped.droopLine = false) ∧
    ((moduleAt held 3).active = some callActive ∧ (moduleAt held 3).context.mask.getLsbD 3 = true ∧
      held.droopLine = true) := by
  refine ⟨?_, ?_, ?_, ⟨?_, ?_⟩, ?_, ⟨rfl, ?_, ?_, ?_⟩, ⟨rfl, ?_, ?_⟩⟩ <;> decide +kernel

theorem witness_ARingAdvanceDropsTheOldestBin :
    governingPart.deviceState ≠ .offline ∧
    (after (.binExpiry 0) (setRing 0 { Ring.reset with current := 31 } governingPart)).deviceState = .governing ∧
    (moduleAt (after (.binExpiry 0) (setRing 0 { Ring.reset with current := 31 } governingPart)) 0).scrub = true := by
  decide +kernel

/-- A rise of 29 above the limit of 28, on a RELEASING module with the mask and on one without a profile, whose ring moves
to index 0; NORMAL with no reference, at index 1; a scrub that may start, and one that may not. -/
theorem witness_ARingAdvanceTestsTheSlopeThenReleases :
    let steep := fun s : State => s.deviceState ≠ .offline ∧ (moduleAt s 0).context.telemetry = .fresh ∧
      (moduleAt s 0).ring.slopeReference = some 207 ∧ (moduleAt s 0).context.filtered = some 236 ∧
      ((moduleAt s 0).context.slopeLimit : Int) < 236 - 207 ∧ ((moduleAt s 0).ring.current.val + 1) % 32 = 0
    let rising := setContext 0 { callModule.context with slopeLimit := 28, mask := 4 }
      (setRing 0 { Ring.reset with slopeReference := some 207, current := 31 }
        (throttled 0 releasingContext governingPart))
    let bare := setActive 0 none (throttled 0 ThrottleContext.reset rising)
    (steep rising ∧ (moduleAt rising 0).active.isSome = true ∧ rising.longCommand = .none ∧
      (moduleAt rising 0).throttle.state = .releasing ∧ (moduleAt rising 0).context.mask.getLsbD 2 = true) ∧
    (steep bare ∧ (moduleAt bare 0).active = none) ∧
    (governingPart.deviceState ≠ .offline ∧ (moduleAt governingPart 0).ring.slopeReference = none ∧
      ((moduleAt governingPart 0).ring.current.val + 1) % 32 = 1) ∧
    (0 < releasingContext.clampBackoff - releaseStep callProfile ∧
      ({ releasingContext with clampBackoff := 8 } : ThrottleContext).clampBackoff - releaseStep callProfile = 0) := by
  refine ⟨⟨?_, ?_, ?_, ?_, ?_⟩, ?_, ?_, ?_⟩ <;> decide +kernel

theorem witness_ARingStoreExaminationLeavesTheRings :
    (testingPart.longCommand = .runTests 0xF ∧ (0xF : TestSet).getLsbD 1 = true) ∧
    (State.reset.longCommand = .none ∧ State.reset.deviceState = .selftest) ∧
    (standbyPart.longCommand = .none ∧ standbyPart.deviceState ≠ .selftest) := by decide +kernel

/-- A failing frame; kinds 0, 5 and 15; another node; a frame in the output; frames that wait behind the last, the first
of which leaves the output empty, or fills it. -/
theorem witness_TheModemPortChecksPassesAndWaits :
    let next := sealFrame 0x5000 [1]
    let held := fun f => { standbyPart with forwardOutput := [next], modemWaiting := [f, next] }
    let taken := fun f => takeFrame f { standbyPart with forwardOutput := [], modemWaiting := [next] }
    PortOpen standbyPart ∧ passesForward ⟨0x3000, [], 0⟩ = false ∧
    (passesForward (sealFrame 0x0000 []) = true ∧ frameKind (sealFrame 0x0000 []) = 0) ∧
    (passesForward (sealFrame 0x5000 [1]) = true ∧ frameKind (sealFrame 0x5000 [1]) = 5) ∧
    (passesForward (sealFrame 0xF000 []) = true ∧ frameKind (sealFrame 0xF000 []) = 15) ∧
    (passesForward (controlFrame 1 1 []) = true ∧ frameKind (controlFrame 1 1 []) = 8 ∧
      frameNode (controlFrame 1 1 []) ≠ standbyPart.nodeNumber.val) ∧
    ((held next).deviceState ≠ .offline ∧ (held next).forwardOutput ≠ [] ∧ (held next).forwardOutput.tail = [] ∧
      (held next).modemWaiting = [next, next]) ∧
    (taken next).forwardOutput ≠ [] ∧ (taken (burstCloseFrame 0 0)).forwardOutput = [] := by decide +kernel

theorem witness_AReturnFrameEntersTheBuffer :
    standbyPart.deviceState ≠ .offline ∧ passesReturn ⟨0xC000, [], 0⟩ = false ∧
    passesReturn (sealFrame 0x1000 [7]) = true ∧ frameKind (sealFrame 0x1000 [7]) ≠ 12 := by decide +kernel

theorem witness_TheMergeArbiterChooses : standbyPart.deviceState ≠ .offline := by decide

/-- Each class at the last place and at the first that is taken; a verdict behind answers to displace, and none. -/
theorem witness_TheReportQueueTakesByClass :
    let queue := fun rs : List Report => { sending standbyPart with reports := rs }
    let answers := fun n => queue (List.replicate n answerReport)
    let mixed := queue (thirteen ++ [verdictReport])
    ReportsWithin mixed ∧ reportClass answerReport = .answer ∧ reportClass verdictReport = .verdict ∧
    reportClass noticeReport = .notice ∧ (answers 15).reports.length < 16 ∧ 16 ≤ (answers 16).reports.length ∧
    (answers 13).reports.length < 14 ∧ 14 ≤ (answers 14).reports.length ∧
    (∀ v ∈ (answers 14).reports, reportClass v ≠ .verdict) ∧
    (14 ≤ (queue (answerReport :: thirteen)).reports.length ∧
      (queue (answerReport :: thirteen)).reports = [answerReport] ++ verdictReport :: thirteen.tail ∧
      ∀ u ∈ [answerReport], reportClass u ≠ .verdict) := by decide +kernel

/-- Out of range by one; the widest range in; with a load open, and with none. -/
theorem witness_LoadOpenOpensALoad :
    let inRange := fun start cnt gap : Word => start.toNat ≤ 12 ∧ 1 ≤ cnt.toNat ∧ cnt.toNat ≤ 13 ∧
      start.toNat + cnt.toNat ≤ 13 ∧ 1 ≤ gap.toNat ∧ gap.toNat ≤ 15
    ¬ inRange 1 13 5 ∧ inRange 0 13 15 ∧ inRange 12 1 1 ∧ (Executing loadingPart ∧ loadingPart.load.isSome = true) ∧
    (Executing standbyPart ∧ standbyPart.load = none) := by decide +kernel

/-- The expected segment, not the last of its load and the last of it, segment 12 with its padding among them. -/
theorem witness_AnExpectedSegmentIsWritten :
    let last := { loadingPart with load := some { openLoad with taken := 2, expected := 4 } }
    let padded := { loadingPart with load := some { openLoad with start := 12, count := 1, taken := 0, expected := 12 } }
    (List.replicate 32 (1 : Word)).length = 32 ∧
    (PortOpen loadingPart ∧ loadingPart.load = some openLoad ∧ (3 : Word).toNat = openLoad.expected ∧
      openLoad.taken + 1 ≠ openLoad.count) ∧
    (PortOpen last ∧ last.load.map (fun l => (l.expected, l.taken + 1, l.count)) = some ((4 : Word).toNat, 3, 3)) ∧
    (PortOpen padded ∧ padded.load.map (fun l => (l.expected, l.taken + 1, l.count)) = some ((12 : Word).toNat, 1, 1)) := by
  decide +kernel

theorem witness_ASegmentOutOfPlaceIsNotWritten :
    (List.replicate 32 (1 : Word)).length = 32 ∧ PortOpen loadingPart ∧ loadingPart.load = some openLoad ∧
    (2 : Word).toNat ≠ openLoad.expected ∧ (4 : Word).toNat ≠ openLoad.expected ∧
    PortOpen standbyPart ∧ standbyPart.load = none := by decide +kernel

theorem witness_ALoadEndsByTimeoutOrAbort :
    loadingPart.load = some openLoad ∧ Executing loadingPart ∧ standbyPart.load = none ∧ Executing standbyPart := by
  decide +kernel

theorem witness_CommitIsTestedThenStarts :
    3 < (4 : Word).toNat ∧ (3 : Word).toNat = (3 : ModuleId).val ∧
    (Executing loadingPart ∧ loadingPart.load.isSome = true) ∧
    (Executing standbyPart ∧ standbyPart.load = none ∧ standbyPart.shadowState ≠ .ready) ∧
    (Executing readyPart ∧ readyPart.load = none ∧ readyPart.shadowState = .ready) := by decide +kernel

/-- Each name of R129 is met by some shadow: the first two here, the order conditions by one changed word. -/
theorem witness_ACommitNamesTheFirstConditionThatFails :
    let changed := fun i v => madeProfile fun k => if k = i then v else callWord k
    profileCheck Profile.zero ≠ 0 ∧ inRange Profile.zero = false ∧
    thermalOrder (changed 270 250) = false ∧ energyOrder (changed 256 60000) = false ∧
    weightOrder (changed 282 65535) = false ∧ backoffOrder (changed 0 9) = false ∧
    allowanceOrder (changed 1 5) = false ∧ admitOrder (changed 3 2) = false := by decide +kernel

/-- A FRESH module that is NORMAL, and the same UNPROFILED, in STALE. -/
theorem witness_ASuccessfulCommitPutsTheProfileInForce :
    let bare := setModuleAt 0 { ModuleState.reset with
      context := { callModule.context with telemetry := .stale, thermalGrade := 7 } } committingPart
    (committingPart.longCommand = .commit 0 (profileCheck callProfile) ∧
      commitFailure committingPart.shadow (profileCheck callProfile) = none ∧
      (moduleAt committingPart 0).throttle.state = .normal ∧ (moduleAt committingPart 0).context.telemetry = .fresh ∧
      (moduleAt committingPart 0).context.filtered = some 236) ∧
    (bare.longCommand = .commit 0 (profileCheck callProfile) ∧
      commitFailure bare.shadow (profileCheck callProfile) = none ∧
      (moduleAt bare 0).throttle.state = .unprofiled ∧ (moduleAt bare 0).context.telemetry ≠ .fresh) :=
  ⟨⟨rfl, test_the_call_profile_passes_a_commit, rfl, rfl, rfl⟩,
    ⟨rfl, test_the_call_profile_passes_a_commit, rfl, by decide +kernel⟩⟩

/-- CLAMPED below the limit; RELEASING at it; LATCHED above it. -/
theorem witness_ACommitCompletionMayLatch :
    let at_ := fun t => throttled 0 t committingPart
    let throttleOf := fun t => (moduleAt (at_ t) 0).throttle
    (∀ t, (at_ t).longCommand = .commit 0 (profileCheck callProfile) ∧
      commitFailure (at_ t).shadow (profileCheck callProfile) = none) ∧
    ((throttleOf clampedContext).state = .clamped ∧ (throttleOf clampedContext).strikes < strikeLimit callProfile) ∧
    ((throttleOf { releasingContext with strikes := 3 }).state = .releasing ∧
      strikeLimit callProfile ≤ (throttleOf { releasingContext with strikes := 3 }).strikes) ∧
    (throttleOf { latchedContext with strikes := 4 }).state = .latched := by
  refine ⟨fun t => ⟨rfl, test_the_call_profile_passes_a_commit⟩, ⟨rfl, ?_⟩, ⟨rfl, ?_⟩, rfl⟩ <;> decide +kernel

/-- A shadow of zeros whose check value agrees is out of range. -/
theorem witness_AFailedCommitLeavesTheStore :
    let s := { committingPart with shadow := .zero, longCommand := .commit 3 (profileCheck .zero) }
    s.longCommand = .commit 3 (profileCheck .zero) ∧ commitFailure s.shadow (profileCheck .zero) = some .range := by
  have h : inRange Profile.zero = false := by decide +kernel
  refine ⟨rfl, ?_⟩
  show commitFailure Profile.zero (profileCheck .zero) = _
  unfold commitFailure
  rw [if_neg (not_not_intro rfl), h]
  rfl

theorem witness_PowerUpEndsInStandbyOrLockdown :
    State.reset.deviceState = .selftest ∧ State.reset.ringFault = none := by decide

/-- All four tests selected, with every profile agreeing; what the storage and the link tests find is an operand. -/
theorem witness_ATestRunEndsInStandbyOrLockdown :
    testingPart.longCommand = .runTests 0xF ∧ (firstMismatch testingPart).isSome = false ∧
    testingPart.ringFault = none := by decide +kernel

/-- A scrub of a profile whose stored check agrees, and one whose stored check does not. -/
theorem witness_TheStoredProfilesAreCheckedByTheirCheckValue :
    let good := setScrub 0 true governingPart
    let bad := setScrub 0 true (setActive 0 (some ⟨.zero, profileCheck .zero + 1⟩) governingPart)
    ((moduleAt good 0).scrub = true ∧ ∀ a, (moduleAt good 0).active = some a → profileCheck a.words = a.check) ∧
    ((moduleAt bad 0).scrub = true ∧ ¬ ∀ a, (moduleAt bad 0).active = some a → profileCheck a.words = a.check) := by
  refine ⟨⟨rfl, ?_⟩, ⟨rfl, ?_⟩⟩
  · intro a h
    obtain rfl : callActive = a := Option.some.inj h
    rw [callActive]
  · intro h
    have h1 : profileCheck Profile.zero = profileCheck Profile.zero + 1 := h ⟨.zero, profileCheck .zero + 1⟩ rfl
    have h2 := congrArg BitVec.toNat h1
    rw [BitVec.toNat_add] at h2
    have h3 := (profileCheck Profile.zero).isLt
    have h4 : (1 : CheckValue).toNat = 1 := rfl
    rw [h4] at h2
    omega

theorem witness_AnEventThatCannotHappenChangesNothing :
    (pathAt standbyPart 7).burst = none ∧ (moduleAt (after (.silenceTimerExpiry 0) standbyPart) 0).context.silenceTimer = none ∧
    (moduleAt standbyPart 3).throttle.holdTimer = none ∧ standbyPart.load = none ∧
    (moduleAt standbyPart 3).scrub = false ∧ standbyPart.longCommand = .none ∧ standbyPart.deviceState ≠ .selftest := by
  decide +kernel

/-- Code 0 and code 18; a full queue; LOCKDOWN, SELFTEST, TESTING and a commit in progress; a missing parameter. -/
theorem witness_ACommandIsRefusedByTheConditionOfThePart :
    let full := { sending standbyPart with reports := List.replicate 16 answerReport }
    ((0 : Word).toNat = 0 ∧ 17 < (18 : Word).toNat) ∧
    (PortOpen full ∧ 16 ≤ full.reports.length ∧ standbyPart.reports.length < 16) ∧
    controlOf (.snapshot []) = some (0x000D, 1, []) ∧ ([] : List Word).length ≠ 1 ∧
    (PortOpen lockdownPart ∧ lockdownPart.deviceState = .lockdown) ∧
    (PortOpen State.reset ∧ State.reset.deviceState = .selftest) ∧
    (PortOpen testingPart ∧ testingPart.deviceState = .testing) ∧
    (PortOpen committingPart ∧ committingPart.deviceState = .governing ∧ committingPart.longCommand ≠ .none ∧
      controlOf (.readEntry [1, 0, 0]) = some (0x000E, 3, [1, 0, 0]) ∧
      ([1, 0, 0] : List Word).head? ≠ some 2) ∧
    (controlOf (.readEntry [2]) = some (0x000E, 3, [2]) ∧ ([2] : List Word).head? = some 2 ∧
      committingPart.longCommand = .commit 0 (profileCheck callProfile)) ∧
    (PortOpen standbyPart ∧ standbyPart.deviceState = .standby ∧ standbyPart.longCommand = .none) := by
  refine ⟨?_, ?_, ?_, ?_, ?_, ?_, ?_, ⟨?_, ?_, fun h => LongCommand.noConfusion h, rfl, ?_⟩, ⟨rfl, ?_, rfl⟩, ?_⟩ <;>
    decide +kernel

theorem witness_Executing : Executing standbyPart ∧ Executing governingPart ∧ Executing dataPart := by decide +kernel

/-- READ STATUS (and SNAPSHOT) with flag 0, 1, 2. -/
theorem witness_IdentifyAndReadStatusAnswerInEveryState :
    Heard lockdownPart ∧ Heard State.reset ∧ 1 < (2 : Word).toNat := by decide +kernel

theorem witness_SnapshotCapturesThenClears : Executing dataPart ∧ 1 < (2 : Word).toNat := by decide +kernel

/-- The last index of each kind, and the first beyond it; kind 2 during a commit. -/
theorem witness_ReadEntryReturnsOneEntry :
    (Heard committingPart ∧ committingPart.deviceState = .governing ∧ (2 : Word).toNat = 2 ∧
      committingPart.longCommand = .commit 0 (profileCheck callProfile)) ∧
    Executing governingPart ∧ 5 < (6 : Word).toNat ∧
    ((3 : Word).toNat = (3 : ModuleId).val ∧ (63 : Word).toNat ≤ 63 ∧ 63 < (64 : Word).toNat ∧
      (moduleAt standbyPart 3).active = none ∧ (moduleAt governingPart 3).active = some callActive) ∧
    ((12 : Word).toNat ≤ 12 ∧ 12 < (13 : Word).toNat) ∧ ((31 : Word).toNat = (31 : BinId).val ∧ 31 < (32 : Word).toNat) ∧
    ((7 : Word).toNat = (7 : PathId).val ∧ 7 < (8 : Word).toNat) ∧ 3 < (4 : Word).toNat := by
  refine ⟨?_, ?_, ?_, ⟨?_, ?_, ?_, ?_, rfl⟩, ?_, ?_, ?_, ?_⟩ <;> decide +kernel

/-- Out of range; a path in a burst; an enabled path onto a module without a profile in GOVERNING; and none of these. -/
theorem witness_SetPathWritesTheFourFields :
    let bare := setActive 3 none governingPart
    Executing dataPart ∧ 7 < (8 : Word).toNat ∧ 2 < (3 : Word).toNat ∧ 1 < (2 : Word).toNat ∧
    ((1 : Word).toNat = (1 : PathId).val ∧ (pathAt dataPart 1).burst.isSome = true) ∧
    ((7 : Word).toNat = (7 : PathId).val ∧ (3 : Word).toNat = (3 : ModuleId).val ∧ Executing bare ∧
      (pathAt bare 7).burst = none ∧ bare.deviceState = .governing ∧ (moduleAt bare 3).active = none) ∧
    (Executing standbyPart ∧ (pathAt standbyPart 7).burst = none) := by decide +kernel

/-- The ends of each range, and the values beyond them. -/
theorem witness_SettingsAreWrittenTogether :
    let timingInRange := fun w1 w2 w3 w4 : Word =>
      1 ≤ w1.toNat ∧ w1.toNat ≤ 255 ∧ w2.toNat ≤ 7 ∧ w3.toNat ≤ 15 ∧ w4.toNat ≤ 31
    let deviceInRange := fun w1 w2 w3 : Word => w1.toNat ≤ 127 ∧ 1 ≤ w2.toNat ∧ w2.toNat ≤ 15 ∧ w3.toNat ≤ 1
    Executing standbyPart ∧ timingInRange 255 7 15 31 ∧ timingInRange 1 0 0 0 ∧ ¬ timingInRange 0 0 0 0 ∧
    ¬ timingInRange 1 0 0 32 ∧ deviceInRange 127 15 1 ∧ deviceInRange 0 1 0 ∧ ¬ deviceInRange 128 1 0 ∧
    255 < (256 : Word).toNat ∧ (255 : Word).toNat ≤ 255 ∧ 3 < (4 : Word).toNat := by decide +kernel

/-- STANDBY with no enabled path; with enabled paths on modules without a profile, module 0 the lowest; GOVERNING. -/
theorem witness_GovernAndStandbyMoveTheDevice :
    let lacks := fun (s : State) (m : ModuleId) => (moduleAt s m).active = none ∧
      ∃ p, (pathAt s p).enabled = true ∧ (pathAt s p).moduleId = m
    let profiled := { governingPart with deviceState := .standby }
    let bare := setActive 3 none profiled
    (Executing profiled ∧ profiled.deviceState = .standby ∧ ∀ m, ¬ lacks profiled m) ∧
    (Executing bare ∧ bare.deviceState = .standby ∧ lacks bare 3 ∧ ∀ n < 3, ¬ lacks bare n) ∧
    (Executing governingPart ∧ governingPart.deviceState = .governing) := by decide +kernel

theorem witness_RunTestsStartsATestRun :
    let inRange := fun w : Word => 1 ≤ w.toNat ∧ w.toNat ≤ 15
    (¬ inRange 0 ∧ ¬ inRange 16 ∧ inRange 1 ∧ inRange 15) ∧
    (Executing governingPart ∧ governingPart.deviceState ≠ .standby) ∧
    (Executing loadingPart ∧ loadingPart.deviceState = .standby ∧ loadingPart.load ≠ none) ∧
    (Executing standbyPart ∧ standbyPart.deviceState = .standby ∧ (∀ p, (pathAt standbyPart p).burst = none) ∧
      standbyPart.load = none) := by decide +kernel

theorem witness_SoftRestartClearsTheWork :
    (Heard dataPart ∧ dataPart.deviceState = .governing ∧ BurstsLawful dataPart ∧ AccountsExact dataPart) ∧
    (Heard testingPart ∧ testingPart.deviceState = .testing) ∧
    (Heard loadingPart ∧ loadingPart.deviceState = .standby) ∧
    (Heard committingPart ∧ committingPart.deviceState = .governing) := by decide +kernel

theorem witness_EveryForwardCommandIsTakenAsItsFrame :
    ((Instr.sample 7 0x1FF 63 [1]).wf = true ∧
      forwardFrameOf 3 (.sample 7 0x1FF 63 [1]) = some (sampleFrame 7 0x1FF 63 [1])) ∧
    ((Instr.segment 12 (List.replicate 32 0)).wf = true ∧
      forwardFrameOf 3 (.segment 12 (List.replicate 32 0)) = some (segmentFrame 3 12 (List.replicate 32 0))) ∧
    ((Instr.commit [3, 1, 2]).wf = true ∧
      forwardFrameOf 3 (.commit [3, 1, 2]) = some (controlFrame 3 0x0009 [3, 1, 2])) ∧
    ((Instr.hardReset [] true false).wf = true ∧
      forwardFrameOf 3 (.hardReset [] true false) = some (controlFrame 3 0x0011 [])) := by decide +kernel

/-- A lawful state with a burst in flight steps, so the invariants' hypotheses are met by more than the reset state. -/
theorem witness_EveryStepKeepsTheLinkAndTheQueueWithinBounds :
    LinkWithin dataPart ∧ ReportsWithin dataPart ∧ step dataPart = .next (passTime dataPart) :=
  ⟨by decide +kernel, by decide +kernel, rfl⟩

theorem witness_EveryStepKeepsTheAccountsExact : BurstsLawful dataPart ∧ AccountsExact dataPart := by decide +kernel

theorem witness_EveryStepKeepsTheWindowAndTheGrades :
    WindowExact dataPart ∧ EnergyGraded dataPart ∧ ThermallyGraded dataPart := by decide +kernel

theorem witness_EveryStepKeepsTheThrottleLaw :
    ThrottlesLawful (throttled 3 clampedContext (throttled 2 releasingContext (throttled 1 latchedContext dataPart))) := by
  decide +kernel

theorem witness_EveryStepKeepsTheOperationsInAgreement :
    OperationsAgree dataPart ∧ ScrubsLawful (setScrub 0 true dataPart) ∧ GoverningProfiled dataPart := by
  decide +kernel

end Sys2Proof.Tests
end

section
/-! ### A commit's conditions, as statements about the stored fields (R9, R129) -/

namespace Sys2Proof.Machine

/-- Section 1.3: every field of the profile holds a legal value. -/
def FieldsLegal (p : Profile) : Prop :=
  (∀ t < 8, ∀ e < 8, storedBackoff p t e ≤ 127 ∧ storedAdmit p t e ≤ 2) ∧
    (∀ g, 1 ≤ g → g ≤ 7 → -160 ≤ storedThermal p g ∧ storedThermal p g ≤ 600) ∧
    storedHysteresis p ≤ 63 ∧ storedClampBackoff p ≤ 127 ∧ (1 ≤ storedHoldCode p ∧ storedHoldCode p ≤ 255) ∧
    (1 ≤ storedReleaseStep p ∧ storedReleaseStep p ≤ 32) ∧ (1 ≤ storedStrikeLimit p ∧ storedStrikeLimit p ≤ 15)

/-- R9: `le` holds from every record of the grid to its hotter and to its busier neighbour. -/
def GridOrdered (field : Nat → Nat → Nat) (le : Nat → Nat → Prop) : Prop :=
  ∀ t < 8, ∀ e < 8, (t < 7 → le (field t e) (field (t + 1) e)) ∧ (e < 7 → le (field t e) (field t (e + 1)))

/-- A test over the indices below `n` is one over the numbers 1 to `n`, as the spec counts grades. -/
theorem forall_lt_succ_iff {n : Nat} {P : Nat → Prop} :
    (∀ g < n, P (g + 1)) ↔ ∀ g, 1 ≤ g → g ≤ n → P g := by
  constructor
  · intro h g h1 hn
    obtain ⟨k, rfl⟩ := Nat.exists_eq_add_of_le' h1
    exact h k hn
  · intro h g hg
    exact h (g + 1) (Nat.le_add_left 1 g) hg

theorem inRange_iff (p : Profile) : inRange p = true ↔ FieldsLegal p := by
  unfold FieldsLegal
  rw [← forall_lt_succ_iff (n := 7) (P := fun g => -160 ≤ storedThermal p g ∧ storedThermal p g ≤ 600)]
  simp only [inRange, List.all_eq_true, List.mem_range, Bool.and_eq_true, decide_eq_true_eq, and_assoc]

theorem thermalOrder_iff (p : Profile) :
    thermalOrder p = true ↔ ∀ g, 1 ≤ g → g ≤ 6 → storedThermal p g < storedThermal p (g + 1) := by
  rw [← forall_lt_succ_iff (n := 6) (P := fun g => storedThermal p g < storedThermal p (g + 1))]
  simp only [thermalOrder, List.all_eq_true, List.mem_range, decide_eq_true_eq]

theorem energyOrder_iff (p : Profile) :
    energyOrder p = true ↔ ∀ g, 1 ≤ g → g ≤ 6 → energyThreshold p g < energyThreshold p (g + 1) := by
  rw [← forall_lt_succ_iff (n := 6) (P := fun g => energyThreshold p g < energyThreshold p (g + 1))]
  simp only [energyOrder, List.all_eq_true, List.mem_range, decide_eq_true_eq]

theorem weightOrder_iff (p : Profile) : weightOrder p = true ↔ ∀ g ≤ 126, weight p g ≤ weight p (g + 1) := by
  simp only [weightOrder, List.all_eq_true, List.mem_range, decide_eq_true_eq, Nat.lt_succ_iff]

/-- At the edge of the grid there is no neighbour to compare with, so the edge's test passes. -/
theorem edge_or_iff {i : Nat} (hi : i < 8) {b : Bool} {P : Prop} (hb : b = true ↔ P) :
    (i == 7 || b) = true ↔ (i < 7 → P) := by
  rw [Bool.or_eq_true, beq_iff_eq, hb]
  constructor
  · rintro (rfl | h) hlt
    · exact absurd hlt (Nat.lt_irrefl 7)
    · exact h
  · intro h
    rcases Nat.lt_succ_iff_lt_or_eq.mp hi with hlt | heq
    · exact .inr (h hlt)
    · exact .inl heq

theorem gridOrder_iff (field : Nat → Nat → Nat) {rel : Nat → Nat → Bool} {le : Nat → Nat → Prop}
    (hrel : ∀ a b, rel a b = true ↔ le a b) : gridOrder field rel = true ↔ GridOrdered field le := by
  simp only [gridOrder, GridOrdered, List.all_eq_true, List.mem_range, Bool.and_eq_true]
  refine forall₂_congr fun t ht => forall₂_congr fun e he => ?_
  exact and_congr (edge_or_iff ht (hrel ..)) (edge_or_iff he (hrel ..))

theorem backoffOrder_iff (p : Profile) :
    backoffOrder p = true ↔ GridOrdered (storedBackoff p) fun a b => a ≤ b :=
  gridOrder_iff _ fun _ _ => decide_eq_true_iff

theorem allowanceOrder_iff (p : Profile) :
    allowanceOrder p = true ↔ GridOrdered (storedAllowance p) fun a b => b ≤ a :=
  gridOrder_iff _ fun _ _ => decide_eq_true_iff

theorem admitOrder_iff (p : Profile) : admitOrder p = true ↔ GridOrdered (storedAdmit p) fun a b => a ≤ b :=
  gridOrder_iff _ fun _ _ => decide_eq_true_iff

/-! ### The first test that fails -/

/-- Settles O38: the tests are made in R129's order, so the first that fails decides the answer; each test is the
condition it stands for. -/
theorem aCommitNamesTheFirstConditionThatFails : Obligations.ACommitNamesTheFirstConditionThatFails := by
  intro p check legal thermal energy weights grid backoffs allowances classes f c1
  have hlegal : inRange p = true ↔ legal := inRange_iff p
  have hthermal : thermalOrder p = true ↔ thermal := thermalOrder_iff p
  have henergy : energyOrder p = true ↔ energy := energyOrder_iff p
  have hweights : weightOrder p = true ↔ weights := weightOrder_iff p
  have hbackoffs : backoffOrder p = true ↔ backoffs := backoffOrder_iff p
  have hallowances : allowanceOrder p = true ↔ allowances := allowanceOrder_iff p
  have hclasses : admitOrder p = true ↔ classes := admitOrder_iff p
  rw [← hlegal, ← hthermal, ← henergy, ← hweights, ← hbackoffs, ← hallowances, ← hclasses]
  clear hlegal hthermal henergy hweights hbackoffs hallowances hclasses
  by_cases check_holds : profileCheck p = check
  case neg => simp [f, c1, commitFailure, *]
  by_cases legal_holds : inRange p = true
  case neg => simp [f, c1, commitFailure, *]
  by_cases thermal_holds : thermalOrder p = true
  case neg => simp [f, c1, commitFailure, *]
  by_cases energy_holds : energyOrder p = true
  case neg => simp [f, c1, commitFailure, *]
  by_cases weights_hold : weightOrder p = true
  case neg => simp [f, c1, commitFailure, *]
  by_cases backoffs_hold : backoffOrder p = true
  case neg => simp [f, c1, commitFailure, *]
  by_cases allowances_hold : allowanceOrder p = true
  case neg => simp [f, c1, commitFailure, *]
  by_cases classes_hold : admitOrder p = true
  case neg => simp [f, c1, commitFailure, *]
  simp [f, c1, commitFailure, *]

end Sys2Proof.Machine
end

section
/-! ### The invariant, and the changes that keep it without more ado (R17, R116, R127, R128, R151, R156, R176) -/

namespace Sys2Proof.Machine

/-- Loads, long commands, scrubs and device states agree, and GOVERNING finds its enabled paths profiled. -/
structure InAgreement (s : State) : Prop where
  operations : OperationsAgree s
  scrubs : ScrubsLawful s
  governing : GoverningProfiled s

/-- From `s` to `t` the part stays at the same operations in the same device state: no scrub starts, no profile is lost,
and no path is enabled, disabled or bound anew. -/
structure KeepsOperations (s t : State) : Prop where
  load : t.load.isSome = s.load.isSome
  shadowState : t.shadowState = s.shadowState
  longCommand : t.longCommand = s.longCommand
  deviceState : t.deviceState = s.deviceState
  scrub : ∀ m, (moduleAt t m).scrub = true → (moduleAt s m).scrub = true
  active : ∀ m, (moduleAt s m).active.isSome = true → (moduleAt t m).active.isSome = true
  enabled : ∀ p, (pathAt t p).enabled = (pathAt s p).enabled
  moduleId : ∀ p, (pathAt t p).moduleId = (pathAt s p).moduleId

theorem KeepsOperations.refl (s : State) : KeepsOperations s s :=
  ⟨rfl, rfl, rfl, rfl, fun _ => id, fun _ => id, fun _ => rfl, fun _ => rfl⟩

theorem KeepsOperations.trans {s t u : State} (h1 : KeepsOperations s t) (h2 : KeepsOperations t u) :
    KeepsOperations s u where
  load := h2.load.trans h1.load
  shadowState := h2.shadowState.trans h1.shadowState
  longCommand := h2.longCommand.trans h1.longCommand
  deviceState := h2.deviceState.trans h1.deviceState
  scrub m := h1.scrub m ∘ h2.scrub m
  active m := h2.active m ∘ h1.active m
  enabled p := (h2.enabled p).trans (h1.enabled p)
  moduleId p := (h2.moduleId p).trans (h1.moduleId p)

/-- An update that leaves these fields alone. -/
theorem KeepsOperations.of_fields {s t : State} (hl : t.load = s.load) (hs : t.shadowState = s.shadowState)
    (hc : t.longCommand = s.longCommand) (hd : t.deviceState = s.deviceState) (hm : t.modules = s.modules)
    (hp : t.paths = s.paths) : KeepsOperations s t := by
  have hmod (m : ModuleId) : moduleAt t m = moduleAt s m := by simp only [moduleAt, hm]
  have hpath (p : PathId) : pathAt t p = pathAt s p := by simp only [pathAt, hp]
  exact ⟨congrArg _ hl, hs, hc, hd, fun m h => hmod m ▸ h, fun m h => (hmod m).symm ▸ h, fun p => by rw [hpath],
    fun p => by rw [hpath]⟩

theorem KeepsOperations.committing {s t : State} (h : KeepsOperations s t) (m : ModuleId) :
    committing t m = committing s m := by
  unfold Machine.committing
  rw [h.longCommand]

theorem InAgreement.of_keeps {s t : State} (h : InAgreement s) (k : KeepsOperations s t) : InAgreement t where
  operations := by
    unfold OperationsAgree
    rw [k.load, k.shadowState, k.longCommand, k.deviceState]
    exact h.operations
  scrubs m hm := by
    obtain ⟨hactive, hcommit, hdevice⟩ := h.scrubs m (k.scrub m hm)
    exact ⟨k.active m hactive, (k.committing m).trans hcommit, k.deviceState.symm ▸ hdevice⟩
  governing hd p hp := by
    rw [k.moduleId]
    exact k.active _ (h.governing (k.deviceState ▸ hd) p (k.enabled p ▸ hp))

/-! ### The updates of the state -/

theorem foldl_keepsOperations {α : Type} {f : State → α → State} (h : ∀ s a, KeepsOperations s (f s a)) (l : List α)
    (s : State) : KeepsOperations s (l.foldl f s) := by
  induction l generalizing s with
  | nil => exact .refl s
  | cons a l ih => exact (h s a).trans (ih (f s a))

theorem setModuleAt_keepsOperations {m : ModuleId} {x : ModuleState} {s : State}
    (hs : x.scrub = true → (moduleAt s m).scrub = true)
    (ha : (moduleAt s m).active.isSome = true → x.active.isSome = true) : KeepsOperations s (setModuleAt m x s) where
  load := rfl
  shadowState := rfl
  longCommand := rfl
  deviceState := rfl
  enabled _ := rfl
  moduleId _ := rfl
  scrub n h := by
    rw [moduleAt_setModuleAt] at h
    split at h
    · next e => exact e ▸ hs h
    · exact h
  active n h := by
    rw [moduleAt_setModuleAt]
    split
    · next e => exact ha (e ▸ h)
    · exact h

theorem setContext_keepsOperations (m : ModuleId) (x : ModuleContext) (s : State) :
    KeepsOperations s (setContext m x s) := setModuleAt_keepsOperations id id

theorem setRing_keepsOperations (m : ModuleId) (x : Ring) (s : State) : KeepsOperations s (setRing m x s) :=
  setModuleAt_keepsOperations id id

theorem setThrottle_keepsOperations (m : ModuleId) (x : ThrottleContext) (s : State) :
    KeepsOperations s (setThrottle m x s) := setModuleAt_keepsOperations id id

theorem setAccounts_keepsOperations (m : ModuleId) (x : Accounts) (s : State) :
    KeepsOperations s (setAccounts m x s) := setModuleAt_keepsOperations id id

/-- A scrub ends or is abandoned. -/
theorem endScrub_keepsOperations (m : ModuleId) (s : State) : KeepsOperations s (setScrub m false s) :=
  setModuleAt_keepsOperations (fun h => nomatch h) id

theorem abandonScrubs_keepsOperations (s : State) : KeepsOperations s (abandonScrubs s) :=
  foldl_keepsOperations (fun s m => endScrub_keepsOperations m s) allModules s

theorem setPathAt_keepsOperations {p : PathId} {x : PathContext} {s : State} (he : x.enabled = (pathAt s p).enabled)
    (hm : x.moduleId = (pathAt s p).moduleId) : KeepsOperations s (setPathAt p x s) where
  load := rfl
  shadowState := rfl
  longCommand := rfl
  deviceState := rfl
  scrub _ := id
  active _ := id
  enabled q := by
    rw [pathAt_setPathAt]
    split
    · next e => exact e ▸ he
    · rfl
  moduleId q := by
    rw [pathAt_setPathAt]
    split
    · next e => exact e ▸ hm
    · rfl

theorem setBurst_keepsOperations (p : PathId) (b : Option BurstRecord) (s : State) :
    KeepsOperations s (setBurst p b s) := setPathAt_keepsOperations rfl rfl

theorem count_keepsOperations (p : PathId) (n : CounterName) (s : State) : KeepsOperations s (count p n s) :=
  setPathAt_keepsOperations rfl rfl

theorem send_keepsOperations (f : Frame) (s : State) : KeepsOperations s (send f s) :=
  .of_fields rfl rfl rfl rfl rfl rfl

theorem addCondition_keepsOperations (c : Condition) (s : State) : KeepsOperations s (addCondition c s) :=
  .of_fields rfl rfl rfl rfl rfl rfl

theorem offer_keepsOperations (r : Report) (s : State) : KeepsOperations s (offer r s) :=
  .of_fields (offer_load r s) (offer_shadowState r s) (offer_longCommand r s) (offer_deviceState r s)
    (offer_modules r s) (offer_paths r s)

theorem mergeChoice_keepsOperations (s : State) : KeepsOperations s (mergeChoice s) := by
  rw [mergeChoice_writes]
  exact .of_fields rfl rfl rfl rfl rfl rfl

theorem enterBuffer_keepsOperations (f : Frame) (s : State) : KeepsOperations s (enterBuffer f s) := by
  unfold enterBuffer
  split
  · rw [chooseIfIdle_writes]
    exact .of_fields rfl rfl rfl rfl rfl rfl
  · exact addCondition_keepsOperations _ s

/-! ### Bursts (chapters 4 and 5) -/

theorem lowerBurst_keepsOperations (p : PathId) (n : Nat) (s : State) : KeepsOperations s (lowerBurst p n s) := by
  unfold lowerBurst
  split
  · exact .refl s
  · dsimp only
    refine .trans ?_ (send_keepsOperations ..)
    have reweighed (m : ModuleId) (old new : Nat) (b : BurstRecord) :
        KeepsOperations s (setBurst p (some b) (reweigh m old new s)) :=
      (setAccounts_keepsOperations ..).trans (setBurst_keepsOperations ..)
    split
    · exact reweighed ..
    · exact (reweighed ..).trans (count_keepsOperations ..)

theorem endBurst_keepsOperations (p : PathId) (b : BurstRecord) (s : State) : KeepsOperations s (endBurst p b s) := by
  have leaving (m : ModuleId) : KeepsOperations s (leaveAccounts m b s) := by
    unfold leaveAccounts
    split
    · exact .refl s
    · exact setAccounts_keepsOperations ..
  exact (leaving _).trans (setBurst_keepsOperations ..)

theorem truncateBurst_keepsOperations (p : PathId) (s : State) : KeepsOperations s (truncateBurst p s) := by
  unfold truncateBurst
  split
  · exact .refl s
  · exact ((endBurst_keepsOperations ..).trans (send_keepsOperations ..)).trans (count_keepsOperations ..)

theorem truncateAll_keepsOperations (s : State) : KeepsOperations s (truncateAll s) :=
  foldl_keepsOperations (fun s p => truncateBurst_keepsOperations p s) allPaths s

theorem decideAdmission_keepsOperations (p : PathId) (length r : Nat) (s : State) :
    KeepsOperations s (decideAdmission p length r s).2 := by
  have preempted (qs : List PathId) : KeepsOperations s (preempt qs s) :=
    foldl_keepsOperations (fun s q => lowerBurst_keepsOperations q 0 s) qs s
  unfold decideAdmission admitGoverning admitHeadroom
  dsimp only
  repeat' split
  · exact .refl s
  · exact .refl s
  · exact .refl s
  · exact .refl s
  · exact .refl s
  · exact preempted _
  · exact preempted _
  · exact .refl s

theorem openBurst_keepsOperations (p : PathId) (length r : Nat) (s : State) :
    KeepsOperations s (openBurst p length r s).2 := by
  have joining (m : ModuleId) (d : Decision) (u : State) : KeepsOperations u (joinAccounts m d length u) := by
    unfold joinAccounts
    split
    · exact .refl u
    · exact setAccounts_keepsOperations ..
  have reporting (d : Decision) (u : State) : KeepsOperations u (reportVerdict p d length r u) := by
    unfold reportVerdict
    dsimp only
    split
    · exact offer_keepsOperations ..
    · exact .refl u
  exact ((((decideAdmission_keepsOperations p length r s).trans (joining ..)).trans (reporting ..)).trans
    (setBurst_keepsOperations ..)).trans (count_keepsOperations ..)

theorem takeBurstOpen_keepsOperations (p : PathId) (spare : BitVec 9) (declared level : Word) (s : State) :
    KeepsOperations s (takeBurstOpen p spare declared level s) := by
  have truncated := truncateBurst_keepsOperations p s
  unfold takeBurstOpen
  dsimp only
  split
  · exact truncated.trans (send_keepsOperations ..)
  · exact (truncated.trans (openBurst_keepsOperations ..)).trans (send_keepsOperations ..)

theorem forwardSample_keepsOperations (p : PathId) (f : Frame) (position g : Nat) (b : BurstRecord) (s : State) :
    KeepsOperations s (forwardSample p f position g b s) :=
  ((((send_keepsOperations f s).trans (setRing_keepsOperations ..)).trans (setAccounts_keepsOperations ..)).trans
    (setBurst_keepsOperations ..)).trans (count_keepsOperations ..)

theorem takeSample_keepsOperations (p : PathId) (f : Frame) (position : Nat) (s : State) :
    KeepsOperations s (takeSample p f position s) := by
  have dropped : KeepsOperations s (dropFrame p s) := count_keepsOperations ..
  unfold takeSample
  split
  · exact dropped
  · split
    · exact dropped
    · split
      · exact forwardSample_keepsOperations ..
      · exact dropped

theorem takeLevelStep_keepsOperations (p : PathId) (spare : BitVec 9) (level : Word) (s : State) :
    KeepsOperations s (takeLevelStep p spare level s) := by
  unfold takeLevelStep
  split
  · exact count_keepsOperations ..
  · split
    · exact send_keepsOperations ..
    · exact ((setAccounts_keepsOperations ..).trans (setBurst_keepsOperations ..)).trans (send_keepsOperations ..)

theorem takeBurstClose_keepsOperations (p : PathId) (spare : BitVec 9) (s : State) :
    KeepsOperations s (takeBurstClose p spare s) := by
  unfold takeBurstClose
  split
  · exact count_keepsOperations ..
  · exact (endBurst_keepsOperations ..).trans (send_keepsOperations ..)

/-! ### The throttle, the readings and the window (chapters 2, 3 and 6) -/

theorem notice_keepsOperations (m : ModuleId) (old : ThrottleState) (cause : NoticeCause) (s : State) :
    KeepsOperations s (notice m old cause s) := by
  unfold notice
  exact offer_keepsOperations ..

theorem clampEntry_keepsOperations (m : ModuleId) (s : State) : KeepsOperations s (clampEntry m s) := by
  refine foldl_keepsOperations (fun s p => ?_) allPaths s
  rcases clampPath_cases m p s with h | ⟨_, n, h⟩
  · rw [h]; exact .refl s
  · rw [h]; exact lowerBurst_keepsOperations ..

/-- A change of throttle state with its clamp entry and its notice. -/
theorem enterClamp_keepsOperations (m : ModuleId) (t : ThrottleContext) (old : ThrottleState) (cause : NoticeCause)
    (s : State) : KeepsOperations s (notice m old cause (clampEntry m (setThrottle m t s))) :=
  ((setThrottle_keepsOperations ..).trans (clampEntry_keepsOperations ..)).trans (notice_keepsOperations ..)

/-- A change of throttle state with its notice. -/
theorem noticedThrottle_keepsOperations (m : ModuleId) (t : ThrottleContext) (old : ThrottleState)
    (cause : NoticeCause) (s : State) : KeepsOperations s (notice m old cause (setThrottle m t s)) :=
  (setThrottle_keepsOperations ..).trans (notice_keepsOperations ..)

theorem strike_keepsOperations (m : ModuleId) (c : Criterion) (p : Profile) (s : State) :
    KeepsOperations s (strike m c p s) := by
  unfold strike
  exact enterClamp_keepsOperations ..

theorem actOnThrottle_keepsOperations (m : ModuleId) (c : Criterion) (s : State) :
    KeepsOperations s (actOnThrottle m c s) := by
  unfold actOnThrottle
  dsimp only
  split
  · exact .refl s
  · split
    · exact .refl s
    · exact .refl s
    · exact setThrottle_keepsOperations ..
    · exact strike_keepsOperations ..
    · exact strike_keepsOperations ..

theorem fire_keepsOperations (m : ModuleId) (c : Criterion) (s : State) : KeepsOperations s (fire m c s) := by
  unfold fire
  dsimp only
  split
  · exact (setThrottle_keepsOperations ..).trans (actOnThrottle_keepsOperations ..)
  · exact setThrottle_keepsOperations ..

theorem takeReleaseStep_keepsOperations (m : ModuleId) (s : State) : KeepsOperations s (takeReleaseStep m s) := by
  unfold takeReleaseStep
  dsimp only
  split
  · split
    · exact noticedThrottle_keepsOperations ..
    · exact setThrottle_keepsOperations ..
  · exact .refl s

theorem throttleTakesCommit_keepsOperations (m : ModuleId) (p : Profile) (s : State) :
    KeepsOperations s (throttleTakesCommit m p s) := by
  have clamping (t : ThrottleContext) (old : ThrottleState) (limit : Nat) : KeepsOperations s
      (if limit ≤ t.strikes then notice m old .commit (clampEntry m (setThrottle m
        { t with state := .latched, strikes := limit, clampBackoff := clampBackoff p, holdTimer := none } s))
      else s) := by
    split
    · exact enterClamp_keepsOperations ..
    · exact .refl s
  unfold throttleTakesCommit
  dsimp only
  split
  · exact noticedThrottle_keepsOperations ..
  · exact .refl s
  · exact clamping ..
  · exact clamping ..
  · exact setThrottle_keepsOperations ..

theorem expireHold_keepsOperations (m : ModuleId) (s : State) : KeepsOperations s (expireHold m s) := by
  unfold expireHold
  dsimp only
  split
  · split
    · exact setThrottle_keepsOperations ..
    · exact .refl s
  · exact noticedThrottle_keepsOperations ..

/-- A reading that is stored and may fire a criterion. -/
theorem storeThenFire_keepsOperations (m : ModuleId) (x : ModuleContext) (c : Criterion) (exceeds : Prop)
    [Decidable exceeds] (s : State) :
    KeepsOperations s (if exceeds then fire m c (setContext m x s) else setContext m x s) := by
  split
  · exact (setContext_keepsOperations ..).trans (fire_keepsOperations ..)
  · exact setContext_keepsOperations ..

theorem ite_keepsOperations {s t : State} (b : Prop) [Decidable b] (h : KeepsOperations s t) :
    KeepsOperations s (if b then t else s) := by
  split
  · exact h
  · exact .refl s

theorem readTelemetry_keepsOperations (a b c d e : Word) (s : State) :
    KeepsOperations s (readTelemetry a b c d e s) := by
  unfold readTelemetry
  split
  · exact .refl s
  · exact ((ite_keepsOperations _ (setContext_keepsOperations ..)).trans
      (ite_keepsOperations _ (storeThenFire_keepsOperations ..))).trans
      (ite_keepsOperations _ (storeThenFire_keepsOperations ..))

theorem expireSilence_keepsOperations (m : ModuleId) (s : State) : KeepsOperations s (expireSilence m s) := by
  unfold expireSilence
  dsimp only
  split
  · exact (setContext_keepsOperations ..).trans (fire_keepsOperations ..)
  · exact setContext_keepsOperations ..

theorem slopeStage_keepsOperations (m : ModuleId) (s : State) : KeepsOperations s (slopeStage m s) := by
  unfold slopeStage
  dsimp only
  split
  · exact (setRing_keepsOperations ..).trans (fire_keepsOperations ..)
  · exact setRing_keepsOperations ..

theorem passTime_keepsOperations (s : State) : KeepsOperations s (passTime s) := by
  unfold passTime
  split
  · exact .refl s
  · have modules (u : State) (m : ModuleId) : KeepsOperations u (setModuleAt m (tickModule (moduleAt u m)) u) :=
      setModuleAt_keepsOperations id id
    have paths (u : State) (p : PathId) : KeepsOperations u (setPathAt p (tickPath (pathAt u p)) u) :=
      setPathAt_keepsOperations rfl rfl
    refine .trans ((foldl_keepsOperations modules allModules s).trans (foldl_keepsOperations paths allPaths _)) ?_
    exact ⟨Option.isSome_map, rfl, rfl, rfl, fun _ => id, fun _ => id, fun _ => rfl, fun _ => rfl⟩

/-! ### Commands that leave the operations as they are (chapter 9) -/

theorem answer_keepsOperations (code : Word) (o : AnswerOutcome) (detail : List Word) (s : State) :
    KeepsOperations s (answer code o detail s) := offer_keepsOperations ..

theorem refuse_keepsOperations (cmd : Command) (o : AnswerOutcome) (s : State) : KeepsOperations s (refuse cmd o s) :=
  answer_keepsOperations ..

theorem done_keepsOperations (cmd : Command) (detail : List Word) {s u : State} (h : KeepsOperations s u) :
    KeepsOperations s (done cmd detail u) := h.trans (answer_keepsOperations ..)

theorem doReadStatus_keepsOperations (params : List Word) (s : State) :
    KeepsOperations s (doReadStatus params s) := by
  have cleared : KeepsOperations s (clearLatchedSets s) :=
    (KeepsOperations.of_fields rfl rfl rfl rfl rfl rfl : KeepsOperations s { s with status := 0 }).trans
      (foldl_keepsOperations (fun _ _ => setThrottle_keepsOperations ..) allModules _)
  unfold doReadStatus
  split
  · split
    · exact done_keepsOperations _ _ (ite_keepsOperations _ cleared)
    · exact refuse_keepsOperations ..
  · exact refuse_keepsOperations ..

theorem doSnapshot_keepsOperations (params : List Word) (s : State) : KeepsOperations s (doSnapshot params s) := by
  have zeroed (u : State) (p : PathId) :
      KeepsOperations u (setPathAt p { pathAt u p with counters := .zero } u) := setPathAt_keepsOperations rfl rfl
  have cleared : KeepsOperations s (clearCounters s) := foldl_keepsOperations zeroed allPaths s
  unfold doSnapshot
  split
  · split
    · exact done_keepsOperations _ _ (ite_keepsOperations _ cleared)
    · exact refuse_keepsOperations ..
  · exact refuse_keepsOperations ..

theorem doReadEntry_keepsOperations (params : List Word) (s : State) : KeepsOperations s (doReadEntry params s) := by
  unfold doReadEntry
  split
  · split
    · exact done_keepsOperations _ _ (.refl s)
    · exact refuse_keepsOperations ..
  · exact refuse_keepsOperations ..

theorem doSetModule_keepsOperations (params : List Word) (s : State) : KeepsOperations s (doSetModule params s) := by
  unfold doSetModule
  split
  · split
    · exact done_keepsOperations _ _ (setContext_keepsOperations ..)
    · exact refuse_keepsOperations ..
  · exact refuse_keepsOperations ..

theorem doSetLimits_keepsOperations (params : List Word) (s : State) : KeepsOperations s (doSetLimits params s) := by
  unfold doSetLimits
  split
  · split
    · exact done_keepsOperations _ _ (setContext_keepsOperations ..)
    · exact refuse_keepsOperations ..
  · exact refuse_keepsOperations ..

theorem doSetDevice_keepsOperations (params : List Word) (s : State) : KeepsOperations s (doSetDevice params s) := by
  unfold doSetDevice
  split
  · split
    · exact done_keepsOperations _ _ (.of_fields rfl rfl rfl rfl rfl rfl)
    · exact refuse_keepsOperations ..
  · exact refuse_keepsOperations ..

theorem doClearLatch_keepsOperations (params : List Word) (s : State) :
    KeepsOperations s (doClearLatch params s) := by
  unfold doClearLatch
  split
  · split
    · exact refuse_keepsOperations ..
    · dsimp only
      split
      · exact done_keepsOperations _ _ (noticedThrottle_keepsOperations ..)
      · exact refuse_keepsOperations ..
  · exact refuse_keepsOperations ..

/-! ### A part with no operation in progress (R120, R166, R175, R177) -/

/-- No load, no long command and no scrub is in progress. -/
structure AllEnded (s : State) : Prop where
  load : s.load = none
  longCommand : s.longCommand = .none
  notLoading : s.shadowState ≠ .loading
  notCommitting : s.shadowState ≠ .committing
  noScrub : ∀ m, (moduleAt s m).scrub = false

theorem AllEnded.of_keeps {s t : State} (h : AllEnded s) (k : KeepsOperations s t) : AllEnded t where
  load := by
    have e := k.load
    rw [h.load] at e
    exact Option.isSome_eq_false_iff.mp e |> Option.isNone_iff_eq_none.mp
  longCommand := k.longCommand.trans h.longCommand
  notLoading := k.shadowState ▸ h.notLoading
  notCommitting := k.shadowState ▸ h.notCommitting
  noScrub m := Bool.eq_false_iff.mpr fun e => absurd (k.scrub m e) (by simp [h.noScrub m])

/-- With neither a load nor a long command, a shadow and a device state that ask for none agree. -/
theorem operationsAgree_of_none {s : State} (hload : s.load = none) (hlong : s.longCommand = .none)
    (hloading : s.shadowState ≠ .loading) (hcommitting : s.shadowState ≠ .committing)
    (htesting : s.deviceState ≠ .testing) : OperationsAgree s := by
  simp [OperationsAgree, isCommit, isTestRun, hload, hlong, hloading, hcommitting, htesting]

theorem AllEnded.inAgreement {s : State} (h : AllEnded s) (ht : s.deviceState ≠ .testing)
    (hg : s.deviceState ≠ .governing) : InAgreement s where
  operations := operationsAgree_of_none h.load h.longCommand h.notLoading h.notCommitting ht
  scrubs m hm := absurd hm (by simp [h.noScrub m])
  governing hd := absurd hd hg

theorem AllEnded.inDeviceState {s : State} (h : AllEnded s) (d : DeviceState) (cause : LockdownCause) :
    AllEnded { s with deviceState := d, lockdownCause := cause } :=
  ⟨h.load, h.longCommand, h.notLoading, h.notCommitting, h.noScrub⟩

theorem reset_allEnded : AllEnded State.reset := ⟨rfl, rfl, by decide, by decide, by decide⟩

/-- Once the long command is abandoned the shadow is not COMMITTING, and LOADING only with the load still open. -/
theorem abandonLongCommand_ends {s : State} (h : OperationsAgree s) :
    (abandonLongCommand s).longCommand = .none ∧ (abandonLongCommand s).shadowState ≠ .committing ∧
      ((abandonLongCommand s).shadowState = .loading → (abandonLongCommand s).load.isSome = true) := by
  obtain ⟨hload, hcommit, -, -, -⟩ := h
  cases hl : s.longCommand with
  | none =>
    rw [abandonLongCommand_none hl]
    exact ⟨hl, fun e => by simpa [hl, isCommit] using hcommit.mpr e, hload.mpr⟩
  | commit m k =>
    rw [abandonLongCommand_commit hl]
    exact ⟨rfl, nofun, nofun⟩
  | runTests t =>
    rw [abandonLongCommand_runTests hl]
    have notCommitting : s.shadowState ≠ .committing := fun e => by simpa [hl, isCommit] using hcommit.mpr e
    cases ht : t.getLsbD 0 with
    | true => exact ⟨rfl, nofun, nofun⟩
    | false => exact ⟨rfl, notCommitting, hload.mpr⟩

/-- What LOCKDOWN and SOFT RESTART end leaves nothing in progress. -/
theorem abandonAll_allEnded {s : State} (h : OperationsAgree s) :
    AllEnded (abandonScrubs (cutLoad (abandonLongCommand s))) := by
  obtain ⟨hlong, hcommitting, hloading⟩ := abandonLongCommand_ends h
  generalize abandonLongCommand s = u at hlong hcommitting hloading
  cases hl : u.load with
  | none =>
    rw [cutLoad_none hl, abandonScrubs_eq]
    exact ⟨hl, hlong, fun e => by simpa [hl] using hloading e, hcommitting, fun m => by simp [moduleAt]⟩
  | some l =>
    rw [cutLoad_some hl, abandonScrubs_eq]
    exact ⟨rfl, hlong, nofun, nofun, fun m => by simp [moduleAt]⟩

theorem enterLockdown_allEnded (cause : LockdownCause) {s : State} (h : OperationsAgree s) :
    AllEnded (enterLockdown cause s) := by
  unfold enterLockdown reportDeviceState
  exact ((abandonAll_allEnded h).inDeviceState .lockdown cause).of_keeps (offer_keepsOperations ..)

@[simp] theorem enterLockdown_deviceState (cause : LockdownCause) (s : State) :
    (enterLockdown cause s).deviceState = .lockdown := by
  unfold enterLockdown reportDeviceState
  exact offer_deviceState ..

theorem enterLockdown_inAgreement (cause : LockdownCause) {s : State} (h : OperationsAgree s) :
    InAgreement (enterLockdown cause s) :=
  (enterLockdown_allEnded cause h).inAgreement (by simp) (by simp)

theorem hardReset_inAgreement (s : State) : InAgreement (hardReset s) :=
  (reset_allEnded.of_keeps (t := hardReset s) (.of_fields rfl rfl rfl rfl rfl rfl)).inAgreement nofun nofun

/-! ### Reports and conditions leave a part in agreement -/

section Reports

variable {s : State} (h : InAgreement s)

include h

theorem InAgreement.offer {r : Report} : InAgreement (offer r s) := h.of_keeps (offer_keepsOperations ..)

theorem InAgreement.answer {code : Word} {o : AnswerOutcome} {detail : List Word} :
    InAgreement (answer code o detail s) := h.offer

theorem InAgreement.refuse {cmd : Command} {o : AnswerOutcome} : InAgreement (refuse cmd o s) := h.answer

theorem InAgreement.done {cmd : Command} {detail : List Word} : InAgreement (done cmd detail s) := h.answer

theorem InAgreement.addCondition {c : Condition} : InAgreement (addCondition c s) :=
  h.of_keeps (addCondition_keepsOperations ..)

end Reports

/-! ### Loads (R116 to R125) -/

/-- While a load is open the device works and no commit runs. -/
theorem InAgreement.of_load {s : State} (h : InAgreement s) (hl : s.load.isSome = true) :
    (s.deviceState = .standby ∨ s.deviceState = .governing) ∧ isCommit s.longCommand = false := by
  obtain ⟨hload, hcommit, -, -, hworks⟩ := h.operations
  refine ⟨hworks hl, Bool.eq_false_iff.mpr fun e => ?_⟩
  simpa [hload.mp hl] using hcommit.mp e

theorem endLoad_inAgreement {s : State} {l : LoadContext} (h : InAgreement s) (hl : s.load = some l) (l' : LoadContext)
    (o : LoadOutcome) (n : Option Nat) {sh : ShadowState} (h1 : sh ≠ .loading) (h2 : sh ≠ .committing) :
    InAgreement (endLoad l' o n sh s) := by
  obtain ⟨hworks, hcommit⟩ := h.of_load (by rw [hl]; rfl)
  obtain ⟨-, -, htest, -, -⟩ := h.operations
  unfold endLoad
  refine .offer ?_
  refine ⟨?_, h.scrubs, h.governing⟩
  exact ⟨by simp [h1], by simp [hcommit, h2], htest, fun _ => hworks, fun _ => hworks⟩

theorem takeSegment_inAgreement (index : Word) (words : List Word) {s : State} (h : InAgreement s) :
    InAgreement (takeSegment index words s) := by
  unfold takeSegment
  split
  · exact h.addCondition
  · next l hl =>
    split
    · unfold acceptSegment
      dsimp only
      have written : KeepsOperations s { s with shadow := writeWords s.shadow (32 * l.expected) words } :=
        .of_fields rfl rfl rfl rfl rfl rfl
      split
      · exact endLoad_inAgreement (h.of_keeps written) hl _ _ _ (by decide) (by decide)
      · exact h.of_keeps ⟨by rw [hl]; rfl, rfl, rfl, rfl, fun _ => id, fun _ => id, fun _ => rfl, fun _ => rfl⟩
    · exact endLoad_inAgreement h hl _ _ _ (by decide) (by decide)

/-! ### Commands that start or end an operation or change the device state (chapter 9) -/

/-- STANDBY or GOVERNING with no long command (R152, last row). -/
structure AtWork (s : State) : Prop where
  device : s.deviceState = .standby ∨ s.deviceState = .governing
  longCommand : s.longCommand = .none

/-- All but five commands are executed only by a part at work (R152). -/
theorem atWork_of_refusalFor_none {s : State} {cmd : Command} {params : List Word} (hd : s.deviceState ≠ .offline)
    (hc : cmd ∉ [Command.hardReset, .identify, .readStatus, .softRestart, .readEntry])
    (hr : refusalFor s cmd params = none) : AtWork s := by
  simp only [List.mem_cons, List.not_mem_nil, or_false, not_or] at hc
  obtain ⟨h1, h2, h3, h4, h5⟩ := hc
  have hshadow : readsShadowInCommit s cmd params = false := by simp [readsShadowInCommit, h5]
  unfold refusalFor at hr
  rw [if_neg (by simp [h1, h2, h3])] at hr
  split at hr
  · exact nomatch hr
  · next hlock =>
    split at hr
    · exact nomatch hr
    · next hself =>
      split at hr
      · exact nomatch hr
      · next hlong =>
        simp only [longInProgress, hshadow, Bool.or_eq_true, beq_iff_eq, bne_iff_ne, h4, ne_eq, not_false_eq_true,
          Bool.false_eq_true, and_self, and_true, not_or, not_not] at hlong
        refine ⟨?_, hlong.2⟩
        cases e : s.deviceState <;> simp_all

/-- Of a part at work the shadow is LOADING at most, and that only with a load open. -/
theorem AtWork.nothingRuns {s : State} (hw : AtWork s) (h : InAgreement s) :
    (s.load = none → s.shadowState ≠ .loading) ∧ s.shadowState ≠ .committing ∧ s.deviceState ≠ .testing := by
  obtain ⟨hload, hcommit, htest, -, -⟩ := h.operations
  obtain ⟨hd, hl⟩ := hw
  refine ⟨fun e1 e2 => ?_, fun e => ?_, fun e => ?_⟩
  · simpa [e1] using hload.mpr e2
  · simpa [hl, isCommit] using hcommit.mpr e
  · simpa [hl, isTestRun] using htest.mpr e

/-- The third test of SET PATH (R75): in GOVERNING an enabled path finds a profile on its module. -/
theorem profiled_of_not_pathUnprofiled {enabled : Bool} {m : ModuleId} {s : State} (hd : s.deviceState = .governing)
    (he : enabled = true) (h : ¬ pathUnprofiled enabled m s = true) : (moduleAt s m).active.isSome = true := by
  cases ha : (moduleAt s m).active with
  | none => exact absurd (by simp [pathUnprofiled, hd, he, ha]) h
  | some a => rfl

theorem doSetPath_inAgreement (params : List Word) {s : State} (h : InAgreement s) :
    InAgreement (doSetPath params s) := by
  have refused (o : AnswerOutcome) : InAgreement (refuse .setPath o s) := h.refuse
  unfold doSetPath
  split
  · split
    · next p en m c rep _ _ _ _ _ =>
      split
      · exact refused _
      · split
        · exact refused _
        · next hprofiled =>
          refine .done ?_
          refine ⟨h.operations, h.scrubs, fun hd q hq => ?_⟩
          simp only [pathAt_setPathAt, moduleAt_setPathAt] at hq ⊢
          split
          · next e =>
            exact profiled_of_not_pathUnprofiled hd (by simpa [e] using hq) hprofiled
          · next e => exact h.governing hd q (by simpa [e] using hq)
    · exact refused _
  · exact refused _

theorem doLoadOpen_inAgreement (params : List Word) {s : State} (h : InAgreement s) (hw : AtWork s) :
    InAgreement (doLoadOpen params s) := by
  have refused (o : AnswerOutcome) : InAgreement (refuse .loadOpen o s) := h.refuse
  obtain ⟨-, -, htest⟩ := hw.nothingRuns h
  unfold doLoadOpen
  split
  · split
    · exact refused _
    · split
      · exact refused _
      · refine .done ?_
        refine ⟨?_, h.scrubs, h.governing⟩
        simp [OperationsAgree, isCommit, isTestRun, hw.longCommand, htest, hw.device]
  · exact refused _

theorem doLoadAbort_inAgreement (params : List Word) {s : State} (h : InAgreement s) :
    InAgreement (doLoadAbort params s) := by
  unfold doLoadAbort
  split
  · next l hl =>
    exact (endLoad_inAgreement h hl l _ _ (by decide) (by decide)).answer
  · exact h.refuse

theorem doCommit_inAgreement (params : List Word) {s : State} (h : InAgreement s) (hw : AtWork s) :
    InAgreement (doCommit params s) := by
  have refused (o : AnswerOutcome) : InAgreement (refuse .commit o s) := h.refuse
  obtain ⟨-, -, htest⟩ := hw.nothingRuns h
  unfold doCommit
  split
  · split
    · exact refused _
    · next m _ =>
      split
      · exact refused _
      · next hload =>
        split
        · exact refused _
        · have hnone : s.load = none := by simpa using hload
          refine ⟨?_, fun n hn => ?_, fun hd p hp => ?_⟩
          · simp [OperationsAgree, isCommit, isTestRun, hnone, htest, hw.device]
          · rw [setScrub_eq, moduleAt_setModuleAt] at hn ⊢
            split at hn
            · exact nomatch hn
            · next e =>
              rw [if_neg e]
              have hne : (m == n) = false := beq_eq_false_iff_ne.mpr (Ne.symm e)
              obtain ⟨hactive, -, hdevice⟩ := h.scrubs n hn
              exact ⟨hactive, hne, hdevice⟩
          · exact (endScrub_keepsOperations m _).active _ (h.governing hd p hp)
  · exact refused _

theorem mem_allModules (m : ModuleId) : m ∈ allModules := by
  revert m
  decide

theorem mem_allPaths (p : PathId) : p ∈ allPaths := by
  revert p
  decide

theorem doGovern_inAgreement (params : List Word) {s : State} (h : InAgreement s) (hw : AtWork s) :
    InAgreement (doGovern params s) := by
  unfold doGovern
  split
  · split
    · exact h.answer
    · next hall =>
      refine .done ?_
      refine ⟨?_, fun m hm => ?_, fun _ p hp => ?_⟩
      · obtain ⟨hload, hcommit, -, -, -⟩ := h.operations
        exact ⟨hload, hcommit, by simp [hw.longCommand, isTestRun], fun _ => .inr rfl, fun _ => .inr rfl⟩
      · obtain ⟨hactive, hcommit, -⟩ := h.scrubs m hm
        exact ⟨hactive, hcommit, .inr (.inl rfl)⟩
      · have hlacks := List.find?_eq_none.mp hall _ (mem_allModules (pathAt s p).moduleId)
        rw [← Option.not_isNone, Bool.not_eq_true']
        refine Bool.eq_false_iff.mpr fun hnone => hlacks ?_
        rw [lacksProfile, Bool.and_eq_true, List.any_eq_true]
        exact ⟨hnone, p, mem_allPaths p, Bool.and_eq_true_iff.mpr ⟨hp, beq_self_eq_true _⟩⟩
  · exact h.refuse

theorem doStandby_inAgreement (params : List Word) {s : State} (h : InAgreement s) (hw : AtWork s) :
    InAgreement (doStandby params s) := by
  unfold doStandby
  split
  · refine .done ?_
    refine ⟨?_, fun m hm => ?_, fun e => nomatch e⟩
    · obtain ⟨hload, hcommit, -, -, -⟩ := h.operations
      exact ⟨hload, hcommit, by simp [hw.longCommand, isTestRun], fun _ => .inl rfl, fun _ => .inl rfl⟩
    · obtain ⟨hactive, hcommit, -⟩ := h.scrubs m hm
      exact ⟨hactive, hcommit, .inl rfl⟩
  · exact h.refuse

theorem doRunTests_inAgreement (params : List Word) {s : State} (h : InAgreement s) (hw : AtWork s) :
    InAgreement (doRunTests params s) := by
  have refused (o : AnswerOutcome) : InAgreement (refuse .runTests o s) := h.refuse
  obtain ⟨hloading, hcommitting, -⟩ := hw.nothingRuns h
  have started (tests : TestSet) {u : State} (hl : u.load = none) (hc : u.longCommand = .runTests tests)
      (hd : u.deviceState = .testing) (hm : u.modules = s.modules) (h1 : u.shadowState ≠ .loading)
      (h2 : u.shadowState ≠ .committing) : InAgreement u := by
    have hmod (m : ModuleId) : moduleAt u m = moduleAt s m := by simp only [moduleAt, hm]
    refine ⟨by simp [OperationsAgree, isCommit, isTestRun, hl, hc, hd, h1, h2], fun m hs => ?_, by simp [hd]⟩
    rw [hmod] at hs ⊢
    obtain ⟨hactive, -, -⟩ := h.scrubs m hs
    exact ⟨hactive, by simp [committing, hc], .inr (.inr hd)⟩
  unfold doRunTests
  split
  · split
    · exact refused _
    · split
      · exact refused _
      · split
        · exact refused _
        · next hidle =>
          have hload : s.load = none := by simpa using fun e => hidle (.inr e)
          dsimp only
          split
          · exact started _ hload rfl rfl rfl nofun nofun
          · exact started _ hload rfl rfl rfl (hloading hload) hcommitting
  · exact refused _

theorem doSoftRestart_inAgreement (params : List Word) {s : State} (h : InAgreement s) :
    InAgreement (doSoftRestart params s) := by
  have ended := (abandonAll_allEnded h.operations).of_keeps (truncateAll_keepsOperations _)
  unfold doSoftRestart
  dsimp only
  generalize truncateAll (abandonScrubs (cutLoad (abandonLongCommand s))) = u at ended ⊢
  have hstandby : InAgreement { u with deviceState := .standby } :=
    (ended.inDeviceState .standby u.lockdownCause).inAgreement nofun nofun
  exact (hstandby.of_keeps (t := { u with reports := [], reportGap := false, deviceState := .standby })
    (.of_fields rfl rfl rfl rfl rfl rfl)).answer

/-! ### The Command Unit and the ports -/

theorem takeCommand_inAgreement {cmd : Command} {effect : List Word → State → State} {params : List Word} {s : State}
    (h : InAgreement s) (he : refusalFor s cmd params = none → InAgreement (effect params s)) :
    InAgreement (takeCommand cmd effect params s) := by
  unfold takeCommand
  split
  · exact h.addCondition
  · split
    · exact h.refuse
    · next hr =>
      split
      · exact h.refuse
      · exact he hr

theorem takeControl_inAgreement (code : Word) (params : List Word) {s : State} (h : InAgreement s)
    (hd : s.deviceState ≠ .offline) : InAgreement (takeControl code params s) := by
  have keeping {cmd : Command} {effect : List Word → State → State} (k : KeepsOperations s (effect params s)) :
      InAgreement (takeCommand cmd effect params s) := takeCommand_inAgreement h fun _ => h.of_keeps k
  have working {cmd : Command} {effect : List Word → State → State} (he : AtWork s → InAgreement (effect params s))
      (hc : cmd ∉ [Command.hardReset, .identify, .readStatus, .softRestart, .readEntry]) :
      InAgreement (takeCommand cmd effect params s) :=
    takeCommand_inAgreement h fun hr => he (atWork_of_refusalFor_none hd hc hr)
  unfold takeControl
  split
  · unfold takeUnknown
    split
    · exact h.addCondition
    · exact h.answer
  · exact keeping (answer_keepsOperations ..)
  · exact keeping (doReadStatus_keepsOperations ..)
  · exact takeCommand_inAgreement h fun _ => doSetPath_inAgreement params h
  · exact keeping (doSetModule_keepsOperations ..)
  · exact keeping (doSetLimits_keepsOperations ..)
  · exact keeping (doSetDevice_keepsOperations ..)
  · exact working (doLoadOpen_inAgreement params h) (by decide)
  · exact takeCommand_inAgreement h fun _ => doLoadAbort_inAgreement params h
  · exact working (doCommit_inAgreement params h) (by decide)
  · exact working (doGovern_inAgreement params h) (by decide)
  · exact working (doStandby_inAgreement params h) (by decide)
  · exact keeping (doClearLatch_keepsOperations ..)
  · exact keeping (doSnapshot_keepsOperations ..)
  · exact keeping (doReadEntry_keepsOperations ..)
  · exact working (doRunTests_inAgreement params h) (by decide)
  · exact takeCommand_inAgreement h fun _ => doSoftRestart_inAgreement params h
  · exact takeCommand_inAgreement h fun _ => hardReset_inAgreement s

theorem takeForward_inAgreement {f : Frame} {handler : State → State} {s : State} (h : InAgreement s)
    (hh : s.deviceState ≠ .offline → InAgreement (handler s)) : InAgreement (takeForward f handler s) := by
  unfold takeForward
  split
  · exact h
  · next hd =>
    split
    · exact hh hd
    · exact h.addCondition

theorem modemPort_inAgreement {f : Frame} {handler : State → State} {s : State} (h : InAgreement s)
    (hh : s.deviceState ≠ .offline → InAgreement (handler s)) : InAgreement (modemPort f handler s) := by
  unfold modemPort
  split
  · exact h.of_keeps (.of_fields rfl rfl rfl rfl rfl rfl)
  · exact takeForward_inAgreement h hh

theorem radioPort_keepsOperations {f : Frame} {reading : State → State} {s : State}
    (hr : KeepsOperations s (reading s)) : KeepsOperations s (radioPort f reading s) := by
  unfold radioPort
  split
  · exact .refl s
  · refine .trans ?_ (enterBuffer_keepsOperations ..)
    split
    · exact hr
    · exact addCondition_keepsOperations ..

theorem sortForward_inAgreement (f : Frame) {s : State} (h : InAgreement s) (hd : s.deviceState ≠ .offline) :
    InAgreement (sortForward f s) := by
  unfold sortForward
  repeat' split
  · exact h.of_keeps (takeSample_keepsOperations ..)
  · exact h
  · exact h.of_keeps (takeBurstOpen_keepsOperations ..)
  · exact h
  · exact h.of_keeps (takeBurstClose_keepsOperations ..)
  · exact h.of_keeps (takeLevelStep_keepsOperations ..)
  · exact h
  · exact takeControl_inAgreement _ _ h hd
  · exact h
  · exact takeSegment_inAgreement _ _ h
  · exact h
  · exact h.of_keeps (send_keepsOperations ..)

theorem takeWaiting_inAgreement (fs : List Frame) {s : State} (h : InAgreement s) : InAgreement (takeWaiting fs s) := by
  induction fs generalizing s with
  | nil => exact h.of_keeps (.of_fields rfl rfl rfl rfl rfl rfl)
  | cons f fs ih =>
    have waiting (gs : List Frame) : InAgreement { s with modemWaiting := gs } :=
      h.of_keeps (.of_fields rfl rfl rfl rfl rfl rfl)
    unfold takeWaiting
    split
    · exact ih (takeForward_inAgreement (waiting fs) (sortForward_inAgreement f (waiting fs)))
    · exact waiting _

theorem sortReturn_keepsOperations (f : Frame) (s : State) : KeepsOperations s (sortReturn f s) := by
  unfold sortReturn
  split
  · exact ite_keepsOperations _ (readTelemetry_keepsOperations ..)
  · exact .refl s

/-! ### The ring advance and the completions (chapters 3, 7 and 10) -/

/-- A scrub starts only where the law of scrubs allows one (R52). -/
theorem scrubStage_inAgreement (m : ModuleId) {s : State} (h : InAgreement s) : InAgreement (scrubStage m s) := by
  unfold scrubStage
  split
  · next hstart =>
    obtain ⟨-, hmay⟩ := hstart
    simp only [scrubMayStart, Bool.and_eq_true, Bool.or_eq_true, Bool.not_eq_true', beq_iff_eq] at hmay
    obtain ⟨⟨⟨hactive, hcommit⟩, -⟩, hdevice⟩ := hmay
    have kept (n : ModuleId) : (moduleAt (setScrub m true s) n).active = (moduleAt s n).active := by
      rw [setScrub_eq, moduleAt_setModuleAt]
      split
      · next e => rw [e]
      · rfl
    refine ⟨h.operations, fun n hn => ?_, fun hd p hp => ?_⟩
    · rw [kept]
      by_cases e : n = m
      · subst e
        exact ⟨hactive, hcommit, hdevice.imp_right .inl⟩
      · rw [setScrub_eq, moduleAt_setModuleAt_other e] at hn
        exact h.scrubs n hn
    · exact (congrArg _ (kept _)).trans (h.governing hd p hp)
  · exact h

theorem advance_inAgreement (m : ModuleId) {s : State} (h : InAgreement s) : InAgreement (advance m s) := by
  unfold advance
  exact scrubStage_inAgreement m (h.of_keeps (((setRing_keepsOperations ..).trans (slopeStage_keepsOperations ..)).trans
    (takeReleaseStep_keepsOperations ..)))

theorem putInForce_keepsOperations (m : ModuleId) (a : ActiveProfile) (s : State) :
    KeepsOperations s (putInForce m a s) := setModuleAt_keepsOperations id fun _ => rfl

theorem endCommit_inAgreement {s : State} (h : InAgreement s) (hc : isCommit s.longCommand = true) :
    InAgreement (endCommit s) := by
  obtain ⟨hload, hcommit, htest, hworks, -⟩ := h.operations
  have hnone : s.load = none := by simpa [hcommit.mp hc] using hload
  have htesting : s.deviceState ≠ .testing := fun e => by simpa [e] using hworks hc
  refine ⟨operationsAgree_of_none hnone rfl nofun nofun htesting, fun m hm => ?_, h.governing⟩
  obtain ⟨hactive, -, hdevice⟩ := h.scrubs m hm
  exact ⟨hactive, rfl, hdevice⟩

theorem completeCommit_inAgreement {m : ModuleId} {check : CheckValue} {s : State} (h : InAgreement s)
    (hl : s.longCommand = .commit m check) : InAgreement (completeCommit m check s) := by
  unfold completeCommit
  split
  · have k := (putInForce_keepsOperations m ⟨s.shadow, check⟩ s).trans
      (throttleTakesCommit_keepsOperations m s.shadow _)
    exact (endCommit_inAgreement (h.of_keeps k) (by rw [k.longCommand, hl]; rfl)).answer
  · exact (endCommit_inAgreement h (by rw [hl]; rfl)).answer

theorem completeScrub_inAgreement (m : ModuleId) {s : State} (h : InAgreement s) :
    InAgreement (completeScrub m s) := by
  have ended : InAgreement (setScrub m false s) := h.of_keeps (endScrub_keepsOperations ..)
  unfold completeScrub
  dsimp only
  split
  · split
    · exact ended
    · exact enterLockdown_inAgreement _ ended.operations
  · exact ended

theorem completePowerUp_inAgreement (table ring : Option StoreFault) {s : State} (h : InAgreement s)
    (hd : s.deviceState = .selftest) : InAgreement (completePowerUp table ring s) := by
  obtain ⟨hload, hcommit, htest, -, -⟩ := h.operations
  have recorded (r : TestResults) : InAgreement { s with testResults := r, ringFault := none } :=
    h.of_keeps (.of_fields rfl rfl rfl rfl rfl rfl)
  unfold completePowerUp reportDeviceState
  dsimp only
  split
  · exact enterLockdown_inAgreement _ (recorded _).operations
  · refine .offer ?_
    refine ⟨?_, fun m hm => ?_, fun e => nomatch e⟩
    · refine ⟨hload, hcommit, ⟨fun e => ?_, nofun⟩, fun _ => .inl rfl, fun _ => .inl rfl⟩
      simpa [hd] using htest.mp e
    · obtain ⟨-, -, hdevice⟩ := h.scrubs m hm
      simp [hd] at hdevice

theorem InAgreement.without_longCommand {s : State} (h : InAgreement s) (hl : s.longCommand = .none) :
    InAgreement { s with longCommand := .none } := by
  rw [← hl]
  exact h

theorem completeTestRun_inAgreement {tests : TestSet} (table ring : Option StoreFault) (loop : Option LoopFault)
    {s : State} (h : InAgreement s) (hl : s.longCommand = .runTests tests) :
    InAgreement (completeTestRun tests table ring loop s) := by
  obtain ⟨hload, hcommit, htest, -, hloads⟩ := h.operations
  have hd : s.deviceState = .testing := htest.mp (by rw [hl]; rfl)
  have hnone : s.load = none := by simpa [hd] using hloads
  have recorded (r : TestResults) : InAgreement { s with testResults := r, ringFault := none } :=
    h.of_keeps (.of_fields rfl rfl rfl rfl rfl rfl)
  unfold completeTestRun
  refine .answer ?_
  dsimp only
  split
  · have agreed :=
      (recorded (resultsOf (runFailures tests table (s.ringFault.or ring) loop (firstMismatch s)))).operations
    exact (enterLockdown_inAgreement .test agreed).without_longCommand (enterLockdown_allEnded .test agreed).longCommand
  · refine ⟨operationsAgree_of_none hnone rfl (fun e => ?_) (fun e => ?_) nofun, fun m hm => ?_, fun e => nomatch e⟩
    · simpa [hnone] using hload.mpr e
    · simpa [hl, isCommit] using hcommit.mpr e
    · obtain ⟨hactive, -, -⟩ := h.scrubs m hm
      exact ⟨hactive, rfl, .inl rfl⟩

/-! ### Every step -/

/-- If the part goes on, it goes on in agreement. -/
def GoesOnInAgreement (o : Host.Outcome State Fault Refusal) : Prop := ∀ t, o = .next t → InAgreement t

theorem goesOn_next {t : State} (h : InAgreement t) : GoesOnInAgreement (.next t) := by
  intro u e
  cases e
  exact h

theorem goesOn_ite {c : Prop} [Decidable c] {s t : State} (hs : c → InAgreement s) (ht : ¬ c → InAgreement t) :
    GoesOnInAgreement (if c then .next s else .next t) := by
  split
  · next hc => exact goesOn_next (hs hc)
  · next hc => exact goesOn_next (ht hc)

theorem goesOn_control (code : Word) (params : List Word) {s : State} (h : InAgreement s) :
    GoesOnInAgreement (.next (controlArrives code params (takeControl code params) s)) :=
  goesOn_next (modemPort_inAgreement h (takeControl_inAgreement code params h))

theorem goesOn_port {f : Frame} {handler : State → State} {s : State} (h : InAgreement s)
    (k : KeepsOperations s (handler s)) : GoesOnInAgreement (.next (modemPort f handler s)) :=
  goesOn_next (modemPort_inAgreement h fun _ => h.of_keeps k)

theorem execGapTimerExpiry_goesOn {s : State} (h : InAgreement s) : GoesOnInAgreement (execGapTimerExpiry s) := by
  unfold execGapTimerExpiry
  split
  · exact goesOn_next h
  · next l hl => exact goesOn_next (endLoad_inAgreement h hl l _ _ (by decide) (by decide))

theorem execCommitCompletion_goesOn {s : State} (h : InAgreement s) : GoesOnInAgreement (execCommitCompletion s) := by
  unfold execCommitCompletion
  split
  · next hl => exact goesOn_next (completeCommit_inAgreement h hl)
  · exact goesOn_next h
  · exact goesOn_next h

theorem execTestRunCompletion_goesOn (table ring : Option StoreFault) (loop : Option LoopFault) {s : State}
    (h : InAgreement s) : GoesOnInAgreement (execTestRunCompletion table ring loop s) := by
  unfold execTestRunCompletion
  split
  · next hl => exact goesOn_next (completeTestRun_inAgreement table ring loop h hl)
  · exact goesOn_next h
  · exact goesOn_next h

theorem execDroopAssertingEdge_goesOn {s : State} (h : InAgreement s) :
    GoesOnInAgreement (execDroopAssertingEdge s) := by
  have asserted : InAgreement { s with droopLine := true } := h.of_keeps (.of_fields rfl rfl rfl rfl rfl rfl)
  exact goesOn_ite (fun _ => asserted) fun _ =>
    asserted.of_keeps (foldl_keepsOperations (fun u m => fire_keepsOperations m .droop u) allModules _)

/-- A release brings every block to its reset values, and an assertion too, in OFFLINE (R166). -/
theorem resetBlocks_allEnded (s : State) (d : DeviceState) : AllEnded { resetBlocks s with deviceState := d } :=
  (reset_allEnded.inDeviceState d .none).of_keeps (.of_fields rfl rfl rfl rfl rfl rfl)

theorem exec_inAgreement (i : Instr) {s : State} (h : InAgreement s) : GoesOnInAgreement (exec i s) := by
  cases i with
  | sample => exact goesOn_port h (takeSample_keepsOperations ..)
  | burstOpen => exact goesOn_port h (takeBurstOpen_keepsOperations ..)
  | burstClose => exact goesOn_port h (takeBurstClose_keepsOperations ..)
  | levelStep => exact goesOn_port h (takeLevelStep_keepsOperations ..)
  | segment => exact goesOn_next (modemPort_inAgreement h fun _ => takeSegment_inAgreement _ _ h)
  | forwardPassThrough f => exact goesOn_next (modemPort_inAgreement h (sortForward_inAgreement f h))
  | forwardFrameFailingItsCheck f => exact goesOn_next (modemPort_inAgreement h (sortForward_inAgreement f h))
  | forwardOutputSent =>
    have sent : InAgreement { s with forwardOutput := s.forwardOutput.tail } :=
      h.of_keeps (.of_fields rfl rfl rfl rfl rfl rfl)
    exact goesOn_ite (fun _ => h) fun _ => takeWaiting_inAgreement _ sent
  | telemetry => exact goesOn_next (h.of_keeps (radioPort_keepsOperations (readTelemetry_keepsOperations ..)))
  | returnFrame => exact goesOn_next (h.of_keeps (radioPort_keepsOperations (sortReturn_keepsOperations ..)))
  | mergeArbiterChoice => exact goesOn_ite (fun _ => h) fun _ => h.of_keeps (mergeChoice_keepsOperations s)
  | binExpiry m => exact goesOn_ite (fun _ => h) fun _ => advance_inAgreement m h
  | holdExpiry m => exact goesOn_ite (fun _ => h.of_keeps (expireHold_keepsOperations m s)) fun _ => h
  | silenceTimerExpiry m => exact goesOn_ite (fun _ => h.of_keeps (expireSilence_keepsOperations m s)) fun _ => h
  | graceExpiry p => exact goesOn_ite (fun _ => h) fun _ => h.of_keeps (truncateBurst_keepsOperations p s)
  | gapTimerExpiry => exact execGapTimerExpiry_goesOn h
  | commitCompletion => exact execCommitCompletion_goesOn h
  | testRunCompletion table ring loop => exact execTestRunCompletion_goesOn table ring loop h
  | powerUpTestsCompletion table ring => exact goesOn_ite (completePowerUp_inAgreement table ring h) fun _ => h
  | scrubCompletion m => exact goesOn_ite (fun _ => completeScrub_inAgreement m h) fun _ => h
  | ringStoreBinExamination m bin found =>
    have recorded : KeepsOperations s { s with ringFault := s.ringFault.or found } :=
      .of_fields rfl rfl rfl rfl rfl rfl
    exact goesOn_ite (fun _ => h.of_keeps (recorded.trans (setRing_keepsOperations ..))) fun _ => h
  | resetPinAssertion => exact goesOn_next ((resetBlocks_allEnded s .offline).inAgreement nofun nofun)
  | resetPinRelease a b =>
    have ended : AllEnded (sampleNode (resetBlocks { s with nsel1 := a, nsel0 := b })) :=
      (resetBlocks_allEnded _ .selftest).of_keeps (.of_fields rfl rfl rfl rfl rfl rfl)
    exact goesOn_next (ended.inAgreement nofun nofun)
  | droopAssertingEdge => exact execDroopAssertingEdge_goesOn h
  | droopReleasingEdge => exact goesOn_next (h.of_keeps (.of_fields rfl rfl rfl rfl rfl rfl))
  | identify params => exact goesOn_control (commandCode .identify) params h
  | readStatus params => exact goesOn_control (commandCode .readStatus) params h
  | setPath params => exact goesOn_control (commandCode .setPath) params h
  | setModule params => exact goesOn_control (commandCode .setModule) params h
  | setLimits params => exact goesOn_control (commandCode .setLimits) params h
  | setDevice params => exact goesOn_control (commandCode .setDevice) params h
  | loadOpen params => exact goesOn_control (commandCode .loadOpen) params h
  | loadAbort params => exact goesOn_control (commandCode .loadAbort) params h
  | commit params => exact goesOn_control (commandCode .commit) params h
  | govern params => exact goesOn_control (commandCode .govern) params h
  | standby params => exact goesOn_control (commandCode .standby) params h
  | clearLatch params => exact goesOn_control (commandCode .clearLatch) params h
  | snapshot params => exact goesOn_control (commandCode .snapshot) params h
  | readEntry params => exact goesOn_control (commandCode .readEntry) params h
  | runTests params => exact goesOn_control (commandCode .runTests) params h
  | softRestart params => exact goesOn_control (commandCode .softRestart) params h
  | hardReset params a b =>
    have strapped : InAgreement { s with nsel1 := a, nsel0 := b } := h.of_keeps (.of_fields rfl rfl rfl rfl rfl rfl)
    exact goesOn_control (commandCode .hardReset) params strapped
  | unknownCommand code params => exact goesOn_control code params h

theorem step_inAgreement {s t : State} (h : InAgreement s) (hs : step s = .next t) : InAgreement t := by
  unfold step at hs
  split at hs
  · next c rest _ =>
    exact exec_inAgreement c (s := { s with pending := rest }) (h.of_keeps (.of_fields rfl rfl rfl rfl rfl rfl)) t hs
  · unfold idle at hs
    split at hs
    · exact exec_inAgreement _ h t hs
    · exact goesOn_next (h.of_keeps (passTime_keepsOperations s)) t hs

/-- Settles O60: most of what a step does keeps the part at its operations; each act that starts or ends one, or changes
the device state, is checked against the laws. -/
theorem everyStepKeepsTheOperationsInAgreement : Obligations.EveryStepKeepsTheOperationsInAgreement := by
  intro s t hoperations hscrubs hgoverning hstep
  obtain ⟨operations, scrubs, governing⟩ := step_inAgreement ⟨hoperations, hscrubs, hgoverning⟩ hstep
  exact ⟨operations, scrubs, governing⟩

end Sys2Proof.Machine
end

section
/-! ### The thermal grade and the temperature filter (R22, R24, R26, R27) -/

namespace Sys2Proof.Machine

open Sys2Proof.Claim

/-! ### The two steps of a grade (R27) -/

/-- Up to grade `n` the rising step finds the highest threshold at or below `f`. -/
theorem risingGrade_highest_upTo (p : Profile) (f : Int) (n : Nat) :
    risingGrade p f n ≤ n ∧ (risingGrade p f n = 0 ∨ thermalThreshold p (risingGrade p f n) ≤ f) ∧
      ∀ k, risingGrade p f n < k → k ≤ n → f < thermalThreshold p k := by
  induction n with
  | zero => exact ⟨Nat.le_refl 0, .inl rfl, fun k h1 h2 => absurd h2 (Nat.not_le.mpr h1)⟩
  | succ n ih =>
    obtain ⟨hle, hreached, habove⟩ := ih
    unfold risingGrade
    split
    · next h => exact ⟨Nat.le_refl _, .inr h, fun k h1 h2 => absurd h2 (Nat.not_le.mpr h1)⟩
    · next h =>
      refine ⟨Nat.le_succ_of_le hle, hreached, fun k h1 h2 => ?_⟩
      rcases Nat.le_succ_iff.mp h2 with hk | rfl
      · exact habove k h1 hk
      · exact Int.not_le.mp h

theorem risingGrade_highest (p : Profile) (f : Int) : HighestReached p f (risingGrade p f 7) :=
  risingGrade_highest_upTo p f 7

theorem fallingGrade_falls (p : Profile) (f : Int) (n : Nat) : FallsTo p f n (fallingGrade p f n) := by
  induction n with
  | zero => exact ⟨Nat.le_refl 0, fun k h1 h2 => absurd h2 (Nat.not_le.mpr h1), .inl rfl⟩
  | succ n ih =>
    obtain ⟨hle, hpassed, hstops⟩ := ih
    unfold fallingGrade
    split
    · next h =>
      refine ⟨Nat.le_succ_of_le hle, fun k h1 h2 => ?_, hstops⟩
      rcases Nat.le_succ_iff.mp h2 with hk | rfl
      · exact hpassed k h1 hk
      · exact h
    · next h => exact ⟨Nat.le_refl _, fun k h1 h2 => absurd h2 (Nat.not_le.mpr h1), .inr (Int.not_lt.mp h)⟩

theorem regrade_regraded (p : Profile) (f : Int) (g : Nat) : Regraded p f g (regrade p f g) := by
  refine ⟨risingGrade p f 7, risingGrade_highest p f, ?_⟩
  unfold regrade
  split
  · next h => exact .inl ⟨h, rfl⟩
  · next h => exact .inr ⟨Nat.not_lt.mp h, fallingGrade_falls p f g⟩

theorem regrade_le_seven (p : Profile) (f : Int) {g : Nat} (h : g ≤ 7) : regrade p f g ≤ 7 := by
  obtain ⟨_, ⟨hle, -⟩, ⟨-, hrisen⟩ | ⟨-, hfall, -⟩⟩ := regrade_regraded p f g
  · exact hrisen ▸ hle
  · exact hfall.trans h

theorem freshGrade_le_seven (p : Option Profile) (f : Int) : freshGrade p f ≤ 7 := by
  unfold freshGrade
  split
  · exact (risingGrade_highest _ f).1
  · exact Nat.le_refl 7

theorem nextGrade_le_seven (p : Option Profile) (f : Int) {g : Nat} (h : g ≤ 7) : nextGrade p f g ≤ 7 := by
  unfold nextGrade
  split
  · exact regrade_le_seven _ f h
  · exact h

/-! ### The filter (R22, R24) -/

/-- A temperature that the part holds or reads (R22). -/
def InTemperatureRange (f : Int) : Prop := -160 ≤ f ∧ f ≤ 600

theorem temperatureReading_inRange (w : Word) : InTemperatureRange (temperatureReading w) := by
  unfold InTemperatureRange temperatureReading
  omega

/-- The filter moves toward the reading and not past it, so it stays between the two. -/
theorem filterStep_inRange {f reading : Int} (k : Nat) (hf : InTemperatureRange f) (hr : InTemperatureRange reading) :
    InTemperatureRange (filterStep f reading k) := by
  have hpow : (0 : Int) < 2 ^ k := Int.pow_pos (by decide)
  unfold InTemperatureRange filterStep at *
  rcases Int.le_total 0 (reading - f) with hrise | hfall
  · have hlow := Int.ediv_nonneg hrise hpow.le
    have hhigh := Int.ediv_le_self (2 ^ k) hrise
    omega
  · have hhigh := Int.ediv_nonpos_of_nonpos_of_neg hfall hpow
    have hlow : reading - f ≤ (reading - f) / 2 ^ k :=
      Int.le_ediv_of_mul_le hpow (mul_le_of_one_le_right hfall hpow)
    omega

/-! ### What a temperature reading leaves in the entry (R23, R24, R27, R28, R30) -/

/-- Outside FRESH the reading seeds the filter, and the grade is computed afresh. So is a FRESH entry without a filtered
value, which no run reaches (log entry 17). -/
theorem readTemperature_seeds {c : ModuleContext} (h : c.telemetry = .fresh → c.filtered = none) (p : Option Profile)
    (reading : Int) :
    readTemperature p reading c = { c with
      telemetry := .fresh, silenceTimer := silenceRun c.silenceCode, filtered := some reading,
      thermalGrade := freshGrade p reading } := by
  unfold readTemperature
  split
  · next f hfresh hf => exact absurd (h hfresh) (by simp [hf])
  · rfl

/-- In FRESH the reading moves the filter, and the grade is re-evaluated. -/
theorem readTemperature_moves {c : ModuleContext} {f : Int} (h : c.telemetry = .fresh) (hf : c.filtered = some f)
    (p : Option Profile) (reading : Int) :
    readTemperature p reading c = { c with
      telemetry := .fresh, silenceTimer := silenceRun c.silenceCode,
      filtered := some (filterStep f reading c.filterShift),
      thermalGrade := nextGrade p (filterStep f reading c.filterShift) c.thermalGrade } := by
  simp [readTemperature, h, hf]

end Sys2Proof.Machine
end

section
/-! ### The energy window and the grades: the laws of one module (R26, R37, R39, R47, R48) -/

namespace Sys2Proof.Machine

/-! ### The laws -/

/-- The window's sums are those of the bins, and every bin is within its limits (R37, R39). -/
structure SumsExact (bins : Vector Bin 32) (energy frames : Nat) : Prop where
  energy : energy = (bins.toList.map (·.energy)).sum
  frames : frames = (bins.toList.map (·.frames)).sum
  lawful : ∀ b ∈ bins.toList, binLawful b = true

/-- The energy grade of a window energy, 0 without a profile (R47, R48). -/
def countedGrade (p : Option Profile) (energy : Nat) : Nat :=
  match p with
  | some p => energyGradeOf p energy
  | none => 0

/-- The laws of `WindowExact`, `EnergyGraded` and `ThermallyGraded` for one module. -/
structure GradedModule (x : ModuleState) : Prop where
  sums : SumsExact x.ring.bins x.ring.windowEnergy x.ring.windowFrames
  energyGrade : x.ring.energyGrade = countedGrade (x.active.map (·.words)) x.ring.windowEnergy
  thermal : moduleGraded x = true

theorem gradedModules_iff (s : State) :
    (∀ m, GradedModule (moduleAt s m)) ↔ WindowExact s ∧ EnergyGraded s ∧ ThermallyGraded s := by
  constructor
  · intro h
    refine ⟨fun m => ?_, fun m => (h m).energyGrade, fun m => (h m).thermal⟩
    obtain ⟨energy, frames, lawful⟩ := (h m).sums
    exact ⟨energy, frames, List.all_eq_true.mpr lawful⟩
  · rintro ⟨hwindow, henergy, hthermal⟩ m
    obtain ⟨energy, frames, lawful⟩ := hwindow m
    exact ⟨⟨energy, frames, List.all_eq_true.mp lawful⟩, henergy m, hthermal m⟩

theorem moduleGraded_iff (x : ModuleState) : moduleGraded x = true ↔
    (x.context.filtered = none ↔ x.context.telemetry = .none) ∧
      (∀ f, x.context.filtered = some f → InTemperatureRange f) ∧ x.context.thermalGrade ≤ 7 ∧
      (x.context.thermalGrade = 7 ∨ (x.context.telemetry = .fresh ∧ x.active.isSome = true)) := by
  have absent : (x.context.filtered.isNone == (x.context.telemetry == .none)) = true ↔
      (x.context.filtered = none ↔ x.context.telemetry = .none) := by
    rw [beq_iff_eq, Bool.eq_iff_iff, Option.isNone_iff_eq_none, beq_iff_eq]
  simp only [moduleGraded, InTemperatureRange, Bool.and_eq_true, absent, Bool.or_eq_true, beq_iff_eq,
    decide_eq_true_eq, Option.all_eq_true, and_assoc]

/-! ### What the laws do not read -/

/-- The laws read the ring, the profile and three fields of the context. -/
theorem GradedModule.of_same {x y : ModuleState} (h : GradedModule x) (hring : y.ring = x.ring)
    (hactive : y.active = x.active) (htelemetry : y.context.telemetry = x.context.telemetry)
    (hfiltered : y.context.filtered = x.context.filtered)
    (hgrade : y.context.thermalGrade = x.context.thermalGrade) : GradedModule y := by
  obtain ⟨sums, energyGrade, thermal⟩ := h
  refine ⟨?_, ?_, ?_⟩
  · rw [hring]; exact sums
  · rw [hring, hactive]; exact energyGrade
  · rw [moduleGraded_iff] at thermal ⊢
    rw [htelemetry, hfiltered, hgrade, hactive]
    exact thermal

theorem KeepsButThrottle.graded {x y : ModuleState} (h : KeepsButThrottle x y) (hx : GradedModule x) :
    GradedModule y := by
  rw [h]
  exact hx.of_same rfl rfl rfl rfl rfl

/-! ### The ring: accrual and advance (R40, R41, R45, R47) -/

/-- Writing one entry of a list moves its sum by the difference. -/
theorem sum_set_add {l : List Nat} {i : Nat} (h : i < l.length) (a : Nat) : (l.set i a).sum + l[i] = l.sum + a := by
  have hset := List.sum_set l i a
  have hself := List.sum_set l i l[i]
  rw [List.set_getElem_self] at hself
  rw [if_pos h] at hset hself
  omega

/-- A bin is written and the sums follow: what it held leaves them, what it holds now joins. -/
theorem SumsExact.setBin {bins : Vector Bin 32} {energy frames : Nat} (h : SumsExact bins energy frames) (i : BinId)
    {b : Bin} (hb : binLawful b = true) :
    SumsExact (bins.set i.val b i.isLt) (energy + b.energy - (bins[i.val]'i.isLt).energy)
      (frames + b.frames - (bins[i.val]'i.isLt).frames) := by
  obtain ⟨henergy, hframes, hlawful⟩ := h
  have moved (field : Bin → Nat) : (((bins.set i.val b i.isLt).toList).map field).sum =
      (bins.toList.map field).sum + field b - field (bins[i.val]'i.isLt) := by
    rw [Vector.toList_set, List.map_set]
    have hi : i.val < (bins.toList.map field).length := by simp
    have hsum := sum_set_add hi (field b)
    rw [List.getElem_map, Vector.getElem_toList] at hsum
    omega
  refine ⟨by rw [moved, henergy], by rw [moved, hframes], fun c hc => ?_⟩
  rw [Vector.toList_set] at hc
  rcases List.mem_or_eq_of_mem_set hc with hold | rfl
  · exact hlawful c hold
  · exact hb

theorem SumsExact.bin_lawful {bins : Vector Bin 32} {energy frames : Nat} (h : SumsExact bins energy frames)
    (i : BinId) : binLawful (bins[i.val]'i.isLt) = true :=
  h.lawful _ (Vector.mem_toList_iff.mpr (Vector.getElem_mem i.isLt))

theorem binLawful_iff (b : Bin) : binLawful b = true ↔
    b.energy ≤ Config.maxBinEnergy ∧ b.frames ≤ Config.maxBinFrames ∧ (b.peak = none ↔ b.frames = 0) := by
  have absent : (b.peak.isNone == (b.frames == 0)) = true ↔ (b.peak = none ↔ b.frames = 0) := by
    rw [beq_iff_eq, Bool.eq_iff_iff, Option.isNone_iff_eq_none, beq_iff_eq]
  simp only [binLawful, Bool.and_eq_true, decide_eq_true_eq, absent, and_assoc]

/-- A bin takes no more of a frame than its limits leave, and one that holds frames has a peak level (R40, R41). -/
theorem binLawful_accrued {b : Bin} (h : binLawful b = true) (w g : Nat) :
    binLawful ⟨b.energy + energyTaken b w, b.frames + framesTaken b, raisePeak b.peak g⟩ = true := by
  rw [binLawful_iff] at h ⊢
  obtain ⟨henergy, hframes, -⟩ := h
  have hpeak : raisePeak b.peak g ≠ none := by cases b.peak <;> exact Option.some_ne_none _
  have hheld : b.frames + framesTaken b ≠ 0 := by
    unfold framesTaken Config.maxBinFrames
    omega
  have henergy' : b.energy + energyTaken b w ≤ Config.maxBinEnergy := by unfold energyTaken; omega
  have hframes' : b.frames + framesTaken b ≤ Config.maxBinFrames := by unfold framesTaken; omega
  exact ⟨henergy', hframes', iff_of_false hpeak hheld⟩

theorem accrueRing_sumsExact {r : Ring} (h : SumsExact r.bins r.windowEnergy r.windowFrames) (w g : Nat) :
    SumsExact (accrueRing w g r).bins (accrueRing w g r).windowEnergy (accrueRing w g r).windowFrames := by
  have hset := h.setBin r.current (binLawful_accrued (h.bin_lawful r.current) w g)
  have gained (sum held taken : Nat) : sum + (held + taken) - held = sum + taken := by omega
  simp only [gained] at hset
  exact hset

theorem advanceRing_sumsExact {r : Ring} (h : SumsExact r.bins r.windowEnergy r.windowFrames) (code : Nat) :
    SumsExact (advanceRing code r).bins (advanceRing code r).windowEnergy (advanceRing code r).windowFrames :=
  h.setBin (nextBin r.current) (b := .empty) (by decide)

/-- A ring whose sums are exact is put in place of the module's, and its energy grade evaluated (R47, R48). -/
theorem GradedModule.withRing {x : ModuleState} (h : GradedModule x) {r : Ring}
    (hr : SumsExact r.bins r.windowEnergy r.windowFrames) (hg : r.energyGrade = x.ring.energyGrade) :
    GradedModule { x with ring := gradeEnergy (x.active.map (·.words)) r } := by
  obtain ⟨-, energyGrade, thermal⟩ := h
  unfold gradeEnergy
  split
  · next p hp => exact ⟨hr, congrArg (countedGrade · r.windowEnergy) hp.symm, thermal⟩
  · next hp =>
    rw [hp] at energyGrade
    exact ⟨hr, (hg.trans energyGrade).trans (congrArg (countedGrade · r.windowEnergy) hp.symm), thermal⟩

/-! ### Temperature readings, silence and a commit's completion (R23, R24, R26, R28, R130) -/

theorem GradedModule.readTemperature {x : ModuleState} (h : GradedModule x) {reading : Int}
    (hr : InTemperatureRange reading) :
    GradedModule { x with context := readTemperature (x.active.map (·.words)) reading x.context } := by
  obtain ⟨sums, energyGrade, thermal⟩ := h
  refine ⟨sums, energyGrade, ?_⟩
  obtain ⟨-, hrange, hgrade, hseven⟩ := (moduleGraded_iff x).mp thermal
  rw [moduleGraded_iff]
  have unprofiled {g : Nat} (hg : x.active = none → g = 7) : g = 7 ∨ (x.active.isSome = true) := by
    cases ha : x.active with
    | none => exact .inl (hg ha)
    | some a => exact .inr rfl
  by_cases hmoves : ∃ f, x.context.telemetry = .fresh ∧ x.context.filtered = some f
  · obtain ⟨f, hfresh, hf⟩ := hmoves
    simp only [readTemperature_moves hfresh hf]
    refine ⟨by simp, ?_, nextGrade_le_seven _ _ hgrade, ?_⟩
    · rintro _ ⟨⟩
      exact filterStep_inRange _ (hrange f hf) hr
    · refine (unprofiled fun ha => ?_).imp_right fun ha => ⟨trivial, ha⟩
      simpa [ha, nextGrade] using hseven
  · have hseeds : x.context.telemetry = .fresh → x.context.filtered = none := fun hfresh =>
      Option.eq_none_iff_forall_ne_some.mpr fun f hf => hmoves ⟨f, hfresh, hf⟩
    simp only [readTemperature_seeds hseeds]
    refine ⟨by simp, ?_, freshGrade_le_seven _ _, ?_⟩
    · rintro _ ⟨⟩
      exact hr
    · exact (unprofiled fun ha => by simp [ha, freshGrade]).imp_right fun ha => ⟨trivial, ha⟩

/-- A FRESH module whose silence timer expires becomes STALE with grade 7 (R31). -/
theorem GradedModule.silenced {x : ModuleState} (h : GradedModule x) (hf : x.context.telemetry = .fresh) :
    GradedModule { x with
      context := { x.context with silenceTimer := none, telemetry := .stale, thermalGrade := 7 } } := by
  obtain ⟨sums, energyGrade, thermal⟩ := h
  obtain ⟨hfiltered, hrange, -, -⟩ := (moduleGraded_iff x).mp thermal
  refine ⟨sums, energyGrade, (moduleGraded_iff _).mpr ⟨?_, hrange, Nat.le_refl 7, .inl rfl⟩⟩
  simpa [hf] using hfiltered

theorem committedGrade_cases (p : Profile) (c : ModuleContext) :
    committedGrade p c ≤ 7 ∧ (committedGrade p c = 7 ∨ c.telemetry = .fresh) := by
  unfold committedGrade
  split
  · next f hfresh _ => exact ⟨(risingGrade_highest p f).1, .inr hfresh⟩
  · exact ⟨Nat.le_refl 7, .inl rfl⟩

theorem GradedModule.inForce {x : ModuleState} (h : GradedModule x) (a : ActiveProfile) :
    GradedModule { x with
      active := some a, context := { x.context with thermalGrade := committedGrade a.words x.context },
      ring := gradeEnergy (some a.words) x.ring } := by
  obtain ⟨sums, -, thermal⟩ := h
  obtain ⟨hfiltered, hrange, -, -⟩ := (moduleGraded_iff x).mp thermal
  obtain ⟨hle, hseven⟩ := committedGrade_cases a.words x.context
  have hseven' := hseven.imp_right fun hfresh => And.intro hfresh (rfl : (some a).isSome = true)
  exact ⟨sums, rfl, (moduleGraded_iff _).mpr ⟨hfiltered, hrange, hle, hseven'⟩⟩

theorem reset_graded : ∀ m, GradedModule (moduleAt State.reset m) := by
  rw [gradedModules_iff]
  decide

end Sys2Proof.Machine
end

section
/-! ### The energy window and the grades: every step keeps their laws (R26, R37, R39, R47, R48) -/

namespace Sys2Proof.Machine

/-- Whatever module is within the laws before is within them after. -/
structure KeepsGrades (s t : State) : Prop where
  module : ∀ m, GradedModule (moduleAt s m) → GradedModule (moduleAt t m)

theorem KeepsGrades.refl (s : State) : KeepsGrades s s := ⟨fun _ => id⟩

theorem KeepsGrades.trans {s t u : State} (h1 : KeepsGrades s t) (h2 : KeepsGrades t u) : KeepsGrades s u :=
  ⟨fun m => h2.module m ∘ h1.module m⟩

/-- An update that leaves the modules alone. -/
theorem KeepsGrades.of_modules {s t : State} (h : t.modules = s.modules) : KeepsGrades s t := by
  refine ⟨fun m => ?_⟩
  simp only [moduleAt, h]
  exact id

theorem KeepsGrades.of_throttles {s t : State} (h : ∀ m, KeepsButThrottle (moduleAt s m) (moduleAt t m)) :
    KeepsGrades s t := ⟨fun m => (h m).graded⟩

theorem foldl_keepsGrades {α : Type} {f : State → α → State} (h : ∀ s a, KeepsGrades s (f s a)) (l : List α)
    (s : State) : KeepsGrades s (l.foldl f s) := by
  induction l generalizing s with
  | nil => exact .refl s
  | cons a l ih => exact (h s a).trans (ih (f s a))

theorem ite_keepsGrades {s t u : State} {b : Prop} [Decidable b] (ht : b → KeepsGrades s t)
    (hu : ¬ b → KeepsGrades s u) : KeepsGrades s (if b then t else u) := by
  split
  · next h => exact ht h
  · next h => exact hu h

/-! ### The updates of the state -/

theorem setModuleAt_keepsGrades {m : ModuleId} {x : ModuleState} {s : State}
    (h : GradedModule (moduleAt s m) → GradedModule x) : KeepsGrades s (setModuleAt m x s) := by
  refine ⟨fun n hn => ?_⟩
  rw [moduleAt_setModuleAt]
  split
  · next e => exact h (e ▸ hn)
  · exact hn

theorem setAccounts_keepsGrades (m : ModuleId) (x : Accounts) (s : State) : KeepsGrades s (setAccounts m x s) :=
  setModuleAt_keepsGrades fun h => h.of_same rfl rfl rfl rfl rfl

theorem setThrottle_keepsGrades (m : ModuleId) (x : ThrottleContext) (s : State) :
    KeepsGrades s (setThrottle m x s) := setModuleAt_keepsGrades fun h => h.of_same rfl rfl rfl rfl rfl

theorem setScrub_keepsGrades (m : ModuleId) (x : Bool) (s : State) : KeepsGrades s (setScrub m x s) :=
  setModuleAt_keepsGrades fun h => h.of_same rfl rfl rfl rfl rfl

/-- A context is written with its telemetry state, filtered temperature and grade as they were. -/
theorem setContext_keepsGrades {m : ModuleId} {c : ModuleContext} {s : State}
    (htelemetry : c.telemetry = (moduleAt s m).context.telemetry)
    (hfiltered : c.filtered = (moduleAt s m).context.filtered)
    (hgrade : c.thermalGrade = (moduleAt s m).context.thermalGrade) : KeepsGrades s (setContext m c s) :=
  setModuleAt_keepsGrades fun h => h.of_same rfl rfl htelemetry hfiltered hgrade

/-- A ring is written with its bins, its sums and its grade as they were. -/
theorem setRing_keepsGrades {m : ModuleId} {r : Ring} {s : State} (hbins : r.bins = (moduleAt s m).ring.bins)
    (henergy : r.windowEnergy = (moduleAt s m).ring.windowEnergy)
    (hframes : r.windowFrames = (moduleAt s m).ring.windowFrames)
    (hgrade : r.energyGrade = (moduleAt s m).ring.energyGrade) : KeepsGrades s (setRing m r s) := by
  refine setModuleAt_keepsGrades fun h => ⟨?_, ?_, h.thermal⟩
  · dsimp only
    rw [hbins, henergy, hframes]
    exact h.sums
  · dsimp only
    rw [hgrade, henergy]
    exact h.energyGrade

theorem setPathAt_keepsGrades (p : PathId) (x : PathContext) (s : State) : KeepsGrades s (setPathAt p x s) :=
  .of_modules rfl

theorem send_keepsGrades (f : Frame) (s : State) : KeepsGrades s (send f s) := .of_modules rfl

theorem addCondition_keepsGrades (c : Condition) (s : State) : KeepsGrades s (addCondition c s) := .of_modules rfl

theorem offer_keepsGrades (r : Report) (s : State) : KeepsGrades s (offer r s) := .of_modules (offer_modules r s)

theorem enterBuffer_keepsGrades (f : Frame) (s : State) : KeepsGrades s (enterBuffer f s) := by
  unfold enterBuffer
  refine ite_keepsGrades (fun _ => ?_) fun _ => addCondition_keepsGrades ..
  rw [chooseIfIdle_writes]
  exact .of_modules rfl

/-! ### Bursts (chapters 4 and 5) -/

theorem leaveAccounts_keepsGrades (m : ModuleId) (b : BurstRecord) (s : State) :
    KeepsGrades s (leaveAccounts m b s) := by
  unfold leaveAccounts
  split
  · exact .refl s
  · exact setAccounts_keepsGrades ..

theorem truncateBurst_keepsGrades (p : PathId) (s : State) : KeepsGrades s (truncateBurst p s) := by
  unfold truncateBurst
  split
  · exact .refl s
  · exact (leaveAccounts_keepsGrades ..).trans (.of_modules rfl)

theorem decideAdmission_keepsGrades (p : PathId) (length r : Nat) (s : State) :
    KeepsGrades s (decideAdmission p length r s).2 := by
  have preempted (qs : List PathId) : KeepsGrades s (preempt qs s) :=
    .of_throttles fun m => (preempt_module qs s m).loosen
  unfold decideAdmission admitGoverning admitHeadroom
  dsimp only
  repeat' split
  · exact .refl s
  · exact .refl s
  · exact .refl s
  · exact .refl s
  · exact .refl s
  · exact preempted _
  · exact preempted _
  · exact .refl s

theorem joinAccounts_keepsGrades (m : ModuleId) (d : Decision) (length : Nat) (s : State) :
    KeepsGrades s (joinAccounts m d length s) := by
  unfold joinAccounts
  split
  · exact .refl s
  · exact setAccounts_keepsGrades ..

theorem reportVerdict_keepsGrades (p : PathId) (d : Decision) (length r : Nat) (s : State) :
    KeepsGrades s (reportVerdict p d length r s) :=
  ite_keepsGrades (fun _ => offer_keepsGrades ..) fun _ => .refl s

theorem openBurst_keepsGrades (p : PathId) (length r : Nat) (s : State) :
    KeepsGrades s (openBurst p length r s).2 :=
  (((decideAdmission_keepsGrades p length r s).trans (joinAccounts_keepsGrades ..)).trans
    (reportVerdict_keepsGrades ..)).trans (.of_modules rfl)

theorem takeBurstOpen_keepsGrades (p : PathId) (spare : BitVec 9) (declared level : Word) (s : State) :
    KeepsGrades s (takeBurstOpen p spare declared level s) := by
  have truncated := truncateBurst_keepsGrades p s
  unfold takeBurstOpen
  dsimp only
  split
  · exact truncated.trans (send_keepsGrades ..)
  · exact (truncated.trans (openBurst_keepsGrades ..)).trans (send_keepsGrades ..)

/-- A frame enters the window's current bin, its sums and its grade together (R40, R41, R47). -/
theorem accrue_keepsGrades (m : ModuleId) (w g : Nat) (s : State) : KeepsGrades s (accrue m w g s) :=
  setModuleAt_keepsGrades fun h => h.withRing (accrueRing_sumsExact h.sums w g) rfl

theorem takeSample_keepsGrades (p : PathId) (f : Frame) (position : Nat) (s : State) :
    KeepsGrades s (takeSample p f position s) := by
  have dropped : KeepsGrades s (dropFrame p s) := .of_modules rfl
  unfold takeSample
  split
  · exact dropped
  · split
    · exact dropped
    · refine ite_keepsGrades (fun _ => ?_) fun _ => dropped
      exact (((send_keepsGrades f s).trans (accrue_keepsGrades ..)).trans (setAccounts_keepsGrades ..)).trans
        (.of_modules rfl)

theorem takeLevelStep_keepsGrades (p : PathId) (spare : BitVec 9) (level : Word) (s : State) :
    KeepsGrades s (takeLevelStep p spare level s) := by
  unfold takeLevelStep
  split
  · exact .of_modules rfl
  · split
    · exact send_keepsGrades ..
    · exact (setAccounts_keepsGrades ..).trans (.of_modules rfl)

theorem takeBurstClose_keepsGrades (p : PathId) (spare : BitVec 9) (s : State) :
    KeepsGrades s (takeBurstClose p spare s) := by
  unfold takeBurstClose
  split
  · exact .of_modules rfl
  · exact (leaveAccounts_keepsGrades ..).trans (.of_modules rfl)

/-! ### Readings, firings and the ring advance (chapters 2, 3 and 6) -/

theorem notice_keepsGrades (m : ModuleId) (old : ThrottleState) (cause : NoticeCause) (s : State) :
    KeepsGrades s (notice m old cause s) := by
  unfold notice
  exact offer_keepsGrades ..

theorem fire_keepsGrades (m : ModuleId) (c : Criterion) (s : State) : KeepsGrades s (fire m c s) :=
  .of_throttles (fire_module m c s)

/-- What is written keeps the laws, and so it does with a firing after it. -/
theorem thenFire_keepsGrades {m : ModuleId} {c : Criterion} {fires : Prop} [Decidable fires] {s u : State}
    (h : KeepsGrades s u) : KeepsGrades s (if fires then fire m c u else u) :=
  ite_keepsGrades (fun _ => h.trans (fire_keepsGrades ..)) fun _ => h

theorem takeTemperature_keepsGrades (m : ModuleId) (w : Word) (s : State) : KeepsGrades s (takeTemperature m w s) :=
  setModuleAt_keepsGrades fun h => h.readTemperature (temperatureReading_inRange w)

theorem takeCurrent_keepsGrades (m : ModuleId) (w : Word) (s : State) : KeepsGrades s (takeCurrent m w s) :=
  thenFire_keepsGrades (setContext_keepsGrades rfl rfl rfl)

theorem takeReflection_keepsGrades (m : ModuleId) (w : Word) (s : State) : KeepsGrades s (takeReflection m w s) :=
  thenFire_keepsGrades (setContext_keepsGrades rfl rfl rfl)

theorem readTelemetry_keepsGrades (a b c d e : Word) (s : State) : KeepsGrades s (readTelemetry a b c d e s) := by
  have where_present {t : State} (u : State) (i : Nat) (h : KeepsGrades u t) :
      KeepsGrades u (if b.getLsbD i then t else u) := ite_keepsGrades (fun _ => h) fun _ => .refl u
  unfold readTelemetry
  split
  · exact .refl s
  · exact ((where_present _ 0 (takeTemperature_keepsGrades ..)).trans
      (where_present _ 1 (takeCurrent_keepsGrades ..))).trans (where_present _ 2 (takeReflection_keepsGrades ..))

theorem sortReturn_keepsGrades (f : Frame) (s : State) : KeepsGrades s (sortReturn f s) := by
  unfold sortReturn
  split
  · exact ite_keepsGrades (fun _ => readTelemetry_keepsGrades ..) fun _ => .refl s
  · exact .refl s

theorem expireSilence_keepsGrades (m : ModuleId) (s : State) : KeepsGrades s (expireSilence m s) := by
  refine ite_keepsGrades (fun hfresh => ?_) fun _ => setContext_keepsGrades rfl rfl rfl
  exact (setModuleAt_keepsGrades fun h => h.silenced hfresh).trans (fire_keepsGrades ..)

theorem expireHold_keepsGrades (m : ModuleId) (s : State) : KeepsGrades s (expireHold m s) := by
  unfold expireHold
  dsimp only
  split
  · split
    · exact setThrottle_keepsGrades ..
    · exact .refl s
  · exact (setThrottle_keepsGrades ..).trans (notice_keepsGrades ..)

theorem slopeStage_keepsGrades (m : ModuleId) (s : State) : KeepsGrades s (slopeStage m s) :=
  thenFire_keepsGrades (setRing_keepsGrades rfl rfl rfl rfl)

theorem takeReleaseStep_keepsGrades (m : ModuleId) (s : State) : KeepsGrades s (takeReleaseStep m s) := by
  unfold takeReleaseStep
  dsimp only
  split
  · split
    · exact (setThrottle_keepsGrades ..).trans (notice_keepsGrades ..)
    · exact setThrottle_keepsGrades ..
  · exact .refl s

/-- The oldest bin leaves the window's sums and is cleared, and the grade follows (R45, R47). -/
theorem advance_keepsGrades (m : ModuleId) (s : State) : KeepsGrades s (advance m s) := by
  have advanced (code : Nat) :
      KeepsGrades s (setRing m (gradeEnergy (profileOf s m) (advanceRing code (moduleAt s m).ring)) s) :=
    setModuleAt_keepsGrades fun h => h.withRing (advanceRing_sumsExact h.sums code) rfl
  exact (((advanced _).trans (slopeStage_keepsGrades ..)).trans (takeReleaseStep_keepsGrades ..)).trans
    (ite_keepsGrades (fun _ => setScrub_keepsGrades ..) fun _ => .refl _)

theorem passTime_keepsGrades (s : State) : KeepsGrades s (passTime s) := by
  unfold passTime
  refine ite_keepsGrades (fun _ => .refl s) fun _ => ?_
  have modules (u : State) (m : ModuleId) : KeepsGrades u (setModuleAt m (tickModule (moduleAt u m)) u) :=
    setModuleAt_keepsGrades fun h => ⟨h.sums, h.energyGrade, h.thermal⟩
  have paths (u : State) (p : PathId) : KeepsGrades u (setPathAt p (tickPath (pathAt u p)) u) :=
    setPathAt_keepsGrades ..
  refine .trans ((foldl_keepsGrades modules allModules s).trans (foldl_keepsGrades paths allPaths _)) ?_
  exact .of_modules rfl

/-! ### Loads, the long operations and what ends them (chapters 7 and 10) -/

theorem endLoad_keepsGrades (l : LoadContext) (o : LoadOutcome) (n : Option Nat) (sh : ShadowState) (s : State) :
    KeepsGrades s (endLoad l o n sh s) := .of_modules (offer_modules ..)

theorem takeSegment_keepsGrades (index : Word) (words : List Word) (s : State) :
    KeepsGrades s (takeSegment index words s) := by
  unfold takeSegment
  split
  · exact addCondition_keepsGrades ..
  · next l _ =>
    refine ite_keepsGrades (fun _ => ?_) fun _ => endLoad_keepsGrades ..
    exact ite_keepsGrades (fun _ => .of_modules (offer_modules ..)) fun _ => .of_modules rfl

theorem abandonLongCommand_keepsGrades (s : State) : KeepsGrades s (abandonLongCommand s) := by
  unfold abandonLongCommand
  split
  · exact .refl s
  · exact .of_modules rfl
  · exact ite_keepsGrades (fun _ => .of_modules rfl) fun _ => .of_modules rfl

theorem cutLoad_keepsGrades (s : State) : KeepsGrades s (cutLoad s) := by
  unfold cutLoad
  split
  · exact .refl s
  · exact .of_modules rfl

theorem abandonScrubs_keepsGrades (s : State) : KeepsGrades s (abandonScrubs s) :=
  foldl_keepsGrades (fun _ _ => setScrub_keepsGrades ..) allModules s

theorem abandonAll_keepsGrades (s : State) : KeepsGrades s (abandonScrubs (cutLoad (abandonLongCommand s))) :=
  ((abandonLongCommand_keepsGrades s).trans (cutLoad_keepsGrades _)).trans (abandonScrubs_keepsGrades _)

theorem enterLockdown_keepsGrades (cause : LockdownCause) (s : State) : KeepsGrades s (enterLockdown cause s) :=
  (abandonAll_keepsGrades s).trans (.of_modules (offer_modules ..))

theorem completeScrub_keepsGrades (m : ModuleId) (s : State) : KeepsGrades s (completeScrub m s) := by
  have ended : KeepsGrades s (setScrub m false s) := setScrub_keepsGrades ..
  unfold completeScrub
  dsimp only
  split
  · exact ite_keepsGrades (fun _ => ended) fun _ => ended.trans (enterLockdown_keepsGrades ..)
  · exact ended

theorem completePowerUp_keepsGrades (table ring : Option StoreFault) (s : State) :
    KeepsGrades s (completePowerUp table ring s) := by
  have recorded (r : TestResults) : KeepsGrades s { s with testResults := r, ringFault := none } := .of_modules rfl
  exact ite_keepsGrades (fun _ => (recorded _).trans (enterLockdown_keepsGrades ..))
    fun _ => .of_modules (offer_modules ..)

theorem completeTestRun_keepsGrades (tests : TestSet) (table ring : Option StoreFault) (loop : Option LoopFault)
    (s : State) : KeepsGrades s (completeTestRun tests table ring loop s) := by
  have recorded (r : TestResults) : KeepsGrades s { s with testResults := r, ringFault := none } := .of_modules rfl
  have completed (fs : List (SelfTest × TestReason)) (r : TestResults) : KeepsGrades s
      (if critical fs then enterLockdown .test { s with testResults := r, ringFault := none }
        else { s with testResults := r, ringFault := none, deviceState := .standby }) :=
    ite_keepsGrades (fun _ => (recorded r).trans (enterLockdown_keepsGrades ..)) fun _ => .of_modules rfl
  exact (completed _ _).trans (.of_modules (offer_modules ..))

theorem throttleTakesCommit_keepsGrades (m : ModuleId) (p : Profile) (s : State) :
    KeepsGrades s (throttleTakesCommit m p s) := .of_throttles (throttleTakesCommit_module m p s)

/-- A commit that passes puts its profile in force with both grades evaluated under it (R130). -/
theorem completeCommit_keepsGrades (m : ModuleId) (check : CheckValue) (s : State) :
    KeepsGrades s (completeCommit m check s) := by
  have inForce (a : ActiveProfile) : KeepsGrades s (putInForce m a s) := setModuleAt_keepsGrades fun h => h.inForce a
  unfold completeCommit
  split
  · exact ((inForce _).trans (throttleTakesCommit_keepsGrades ..)).trans (.of_modules (offer_modules ..))
  · exact .of_modules (offer_modules ..)

/-! ### Commands (chapter 9) -/

theorem answer_keepsGrades (code : Word) (o : AnswerOutcome) (detail : List Word) {s u : State}
    (h : KeepsGrades s u) : KeepsGrades s (answer code o detail u) := h.trans (offer_keepsGrades ..)

theorem refuse_keepsGrades (cmd : Command) (o : AnswerOutcome) (s : State) : KeepsGrades s (refuse cmd o s) :=
  answer_keepsGrades _ _ _ (.refl s)

theorem done_keepsGrades (cmd : Command) (detail : List Word) {s u : State} (h : KeepsGrades s u) :
    KeepsGrades s (done cmd detail u) := answer_keepsGrades _ _ _ h

theorem doReadStatus_keepsGrades (params : List Word) (s : State) : KeepsGrades s (doReadStatus params s) := by
  have cleared : KeepsGrades s (clearLatchedSets s) :=
    (KeepsGrades.of_modules rfl : KeepsGrades s { s with status := 0 }).trans
      (foldl_keepsGrades (fun _ _ => setThrottle_keepsGrades ..) allModules _)
  unfold doReadStatus
  split
  · split
    · exact done_keepsGrades _ _ (ite_keepsGrades (fun _ => cleared) fun _ => .refl s)
    · exact refuse_keepsGrades ..
  · exact refuse_keepsGrades ..

theorem doSnapshot_keepsGrades (params : List Word) (s : State) : KeepsGrades s (doSnapshot params s) := by
  have cleared : KeepsGrades s (clearCounters s) :=
    foldl_keepsGrades (fun _ _ => setPathAt_keepsGrades ..) allPaths s
  unfold doSnapshot
  split
  · split
    · exact done_keepsGrades _ _ (ite_keepsGrades (fun _ => cleared) fun _ => .refl s)
    · exact refuse_keepsGrades ..
  · exact refuse_keepsGrades ..

theorem doReadEntry_keepsGrades (params : List Word) (s : State) : KeepsGrades s (doReadEntry params s) := by
  unfold doReadEntry
  split
  · split
    · exact done_keepsGrades _ _ (.refl s)
    · exact refuse_keepsGrades ..
  · exact refuse_keepsGrades ..

theorem doSetPath_keepsGrades (params : List Word) (s : State) : KeepsGrades s (doSetPath params s) := by
  unfold doSetPath
  split
  · split
    · exact ite_keepsGrades (fun _ => refuse_keepsGrades ..) fun _ =>
        ite_keepsGrades (fun _ => refuse_keepsGrades ..) fun _ => done_keepsGrades _ _ (setPathAt_keepsGrades ..)
    · exact refuse_keepsGrades ..
  · exact refuse_keepsGrades ..

theorem doSetModule_keepsGrades (params : List Word) (s : State) : KeepsGrades s (doSetModule params s) := by
  unfold doSetModule
  split
  · split
    · exact done_keepsGrades _ _ (setContext_keepsGrades rfl rfl rfl)
    · exact refuse_keepsGrades ..
  · exact refuse_keepsGrades ..

theorem doSetLimits_keepsGrades (params : List Word) (s : State) : KeepsGrades s (doSetLimits params s) := by
  unfold doSetLimits
  split
  · split
    · exact done_keepsGrades _ _ (setContext_keepsGrades rfl rfl rfl)
    · exact refuse_keepsGrades ..
  · exact refuse_keepsGrades ..

theorem doSetDevice_keepsGrades (params : List Word) (s : State) : KeepsGrades s (doSetDevice params s) := by
  unfold doSetDevice
  split
  · split
    · exact done_keepsGrades _ _ (.of_modules rfl)
    · exact refuse_keepsGrades ..
  · exact refuse_keepsGrades ..

theorem doLoadOpen_keepsGrades (params : List Word) (s : State) : KeepsGrades s (doLoadOpen params s) := by
  unfold doLoadOpen
  split
  · exact ite_keepsGrades (fun _ => refuse_keepsGrades ..) fun _ =>
      ite_keepsGrades (fun _ => refuse_keepsGrades ..) fun _ => done_keepsGrades _ _ (.of_modules rfl)
  · exact refuse_keepsGrades ..

theorem doLoadAbort_keepsGrades (params : List Word) (s : State) : KeepsGrades s (doLoadAbort params s) := by
  unfold doLoadAbort
  split
  · exact done_keepsGrades _ _ (endLoad_keepsGrades ..)
  · exact refuse_keepsGrades ..

theorem doCommit_keepsGrades (params : List Word) (s : State) : KeepsGrades s (doCommit params s) := by
  unfold doCommit
  split
  · split
    · exact refuse_keepsGrades ..
    · next m _ =>
      refine ite_keepsGrades (fun _ => refuse_keepsGrades ..) fun _ =>
        ite_keepsGrades (fun _ => refuse_keepsGrades ..) fun _ => ?_
      refine .trans (.of_modules ?_) (setScrub_keepsGrades m false _)
      rfl
  · exact refuse_keepsGrades ..

theorem doGovern_keepsGrades (params : List Word) (s : State) : KeepsGrades s (doGovern params s) := by
  refine ite_keepsGrades (fun _ => ?_) fun _ => refuse_keepsGrades ..
  split
  · exact answer_keepsGrades _ _ _ (.refl s)
  · exact done_keepsGrades _ _ (.of_modules rfl)

theorem doStandby_keepsGrades (params : List Word) (s : State) : KeepsGrades s (doStandby params s) :=
  ite_keepsGrades (fun _ => done_keepsGrades _ _ (.of_modules rfl)) fun _ => refuse_keepsGrades ..

theorem doClearLatch_keepsGrades (params : List Word) (s : State) : KeepsGrades s (doClearLatch params s) := by
  unfold doClearLatch
  split
  · split
    · exact refuse_keepsGrades ..
    · exact ite_keepsGrades
        (fun _ => done_keepsGrades _ _ ((setThrottle_keepsGrades ..).trans (notice_keepsGrades ..)))
        fun _ => refuse_keepsGrades ..
  · exact refuse_keepsGrades ..

theorem doRunTests_keepsGrades (params : List Word) (s : State) : KeepsGrades s (doRunTests params s) := by
  unfold doRunTests
  split
  · exact ite_keepsGrades (fun _ => refuse_keepsGrades ..) fun _ =>
      ite_keepsGrades (fun _ => refuse_keepsGrades ..) fun _ =>
      ite_keepsGrades (fun _ => refuse_keepsGrades ..) fun _ =>
      ite_keepsGrades (fun _ => .of_modules rfl) fun _ => .of_modules rfl
  · exact refuse_keepsGrades ..

theorem doSoftRestart_keepsGrades (params : List Word) (s : State) : KeepsGrades s (doSoftRestart params s) := by
  have truncated (u : State) : KeepsGrades u (truncateAll u) :=
    foldl_keepsGrades (fun u p => truncateBurst_keepsGrades p u) allPaths u
  have ended := (abandonAll_keepsGrades s).trans (truncated _)
  unfold doSoftRestart
  dsimp only
  generalize truncateAll (abandonScrubs (cutLoad (abandonLongCommand s))) = u at ended ⊢
  exact done_keepsGrades _ _ (ended.trans (.of_modules rfl))

/-- A reset leaves every module within the laws, whatever it held. -/
theorem keepsGrades_of_reset {s t : State} (h : t.modules = State.reset.modules) : KeepsGrades s t :=
  ⟨fun m _ => (KeepsGrades.of_modules h).module m (reset_graded m)⟩

/-! ### The Command Unit and the ports -/

theorem takeCommand_keepsGrades {cmd : Command} {effect : List Word → State → State} {params : List Word}
    {s : State} (h : KeepsGrades s (effect params s)) : KeepsGrades s (takeCommand cmd effect params s) := by
  unfold takeCommand
  refine ite_keepsGrades (fun _ => addCondition_keepsGrades ..) fun _ => ?_
  split
  · exact refuse_keepsGrades ..
  · exact ite_keepsGrades (fun _ => refuse_keepsGrades ..) fun _ => h

theorem takeControl_keepsGrades (code : Word) (params : List Word) (s : State) :
    KeepsGrades s (takeControl code params s) := by
  unfold takeControl
  split
  · exact ite_keepsGrades (fun _ => addCondition_keepsGrades ..) fun _ => answer_keepsGrades _ _ _ (.refl s)
  · exact takeCommand_keepsGrades (done_keepsGrades _ _ (.refl s))
  · exact takeCommand_keepsGrades (doReadStatus_keepsGrades ..)
  · exact takeCommand_keepsGrades (doSetPath_keepsGrades ..)
  · exact takeCommand_keepsGrades (doSetModule_keepsGrades ..)
  · exact takeCommand_keepsGrades (doSetLimits_keepsGrades ..)
  · exact takeCommand_keepsGrades (doSetDevice_keepsGrades ..)
  · exact takeCommand_keepsGrades (doLoadOpen_keepsGrades ..)
  · exact takeCommand_keepsGrades (doLoadAbort_keepsGrades ..)
  · exact takeCommand_keepsGrades (doCommit_keepsGrades ..)
  · exact takeCommand_keepsGrades (doGovern_keepsGrades ..)
  · exact takeCommand_keepsGrades (doStandby_keepsGrades ..)
  · exact takeCommand_keepsGrades (doClearLatch_keepsGrades ..)
  · exact takeCommand_keepsGrades (doSnapshot_keepsGrades ..)
  · exact takeCommand_keepsGrades (doReadEntry_keepsGrades ..)
  · exact takeCommand_keepsGrades (doRunTests_keepsGrades ..)
  · exact takeCommand_keepsGrades (doSoftRestart_keepsGrades ..)
  · exact takeCommand_keepsGrades (keepsGrades_of_reset rfl)

theorem takeForward_keepsGrades (f : Frame) {handler : State → State} {s : State} (h : KeepsGrades s (handler s)) :
    KeepsGrades s (takeForward f handler s) :=
  ite_keepsGrades (fun _ => .refl s) fun _ => ite_keepsGrades (fun _ => h) fun _ => addCondition_keepsGrades ..

theorem modemPort_keepsGrades (f : Frame) {handler : State → State} {s : State} (h : KeepsGrades s (handler s)) :
    KeepsGrades s (modemPort f handler s) :=
  ite_keepsGrades (fun _ => .of_modules rfl) fun _ => takeForward_keepsGrades f h

theorem radioPort_keepsGrades (f : Frame) {reading : State → State} {s : State} (h : KeepsGrades s (reading s)) :
    KeepsGrades s (radioPort f reading s) :=
  ite_keepsGrades (fun _ => .refl s) fun _ =>
    (ite_keepsGrades (fun _ => h) fun _ => addCondition_keepsGrades ..).trans (enterBuffer_keepsGrades ..)

theorem sortForward_keepsGrades (f : Frame) (s : State) : KeepsGrades s (sortForward f s) := by
  unfold sortForward
  repeat' split
  · exact takeSample_keepsGrades ..
  · exact .refl s
  · exact takeBurstOpen_keepsGrades ..
  · exact .refl s
  · exact takeBurstClose_keepsGrades ..
  · exact takeLevelStep_keepsGrades ..
  · exact .refl s
  · exact takeControl_keepsGrades ..
  · exact .refl s
  · exact takeSegment_keepsGrades ..
  · exact .refl s
  · exact send_keepsGrades ..

theorem takeWaiting_keepsGrades (fs : List Frame) (s : State) : KeepsGrades s (takeWaiting fs s) := by
  induction fs generalizing s with
  | nil => exact .of_modules rfl
  | cons f fs ih =>
    have waiting (gs : List Frame) : KeepsGrades s { s with modemWaiting := gs } := .of_modules rfl
    unfold takeWaiting
    refine ite_keepsGrades (fun _ => ?_) fun _ => waiting _
    exact ((waiting fs).trans (takeForward_keepsGrades f (sortForward_keepsGrades f _))).trans (ih _)

/-! ### Every step -/

/-- If the part goes on, its modules stay within the laws. -/
def GoesOnGraded (s : State) (o : Host.Outcome State Fault Refusal) : Prop := ∀ t, o = .next t → KeepsGrades s t

theorem goesOnGraded_next {s t : State} (h : KeepsGrades s t) : GoesOnGraded s (.next t) := by
  intro u e
  cases e
  exact h

theorem goesOnGraded_ite {b : Prop} [Decidable b] {s t u : State} (ht : KeepsGrades s t) (hu : KeepsGrades s u) :
    GoesOnGraded s (if b then .next t else .next u) := by
  split
  · exact goesOnGraded_next ht
  · exact goesOnGraded_next hu

theorem goesOnGraded_control (code : Word) (params : List Word) (s : State) :
    GoesOnGraded s (.next (controlArrives code params (takeControl code params) s)) :=
  goesOnGraded_next (modemPort_keepsGrades _ (takeControl_keepsGrades ..))

theorem goesOnGraded_port (f : Frame) {handler : State → State} {s : State} (h : KeepsGrades s (handler s)) :
    GoesOnGraded s (.next (modemPort f handler s)) := goesOnGraded_next (modemPort_keepsGrades f h)

theorem execGapTimerExpiry_goesOnGraded (s : State) : GoesOnGraded s (execGapTimerExpiry s) := by
  unfold execGapTimerExpiry
  split
  · exact goesOnGraded_next (.refl s)
  · exact goesOnGraded_next (endLoad_keepsGrades ..)

theorem execCommitCompletion_goesOnGraded (s : State) : GoesOnGraded s (execCommitCompletion s) := by
  unfold execCommitCompletion
  split
  · exact goesOnGraded_next (completeCommit_keepsGrades ..)
  · exact goesOnGraded_next (.refl s)
  · exact goesOnGraded_next (.refl s)

theorem execTestRunCompletion_goesOnGraded (table ring : Option StoreFault) (loop : Option LoopFault) (s : State) :
    GoesOnGraded s (execTestRunCompletion table ring loop s) := by
  unfold execTestRunCompletion
  split
  · exact goesOnGraded_next (completeTestRun_keepsGrades ..)
  · exact goesOnGraded_next (.refl s)
  · exact goesOnGraded_next (.refl s)

theorem execDroopAssertingEdge_goesOnGraded (s : State) : GoesOnGraded s (execDroopAssertingEdge s) := by
  have asserted : KeepsGrades s { s with droopLine := true } := .of_modules rfl
  exact goesOnGraded_ite asserted
    (asserted.trans (foldl_keepsGrades (fun u m => fire_keepsGrades m .droop u) allModules _))

/-- A bin's examination writes back what the bin held (R171). -/
theorem execRingStoreBinExamination_goesOnGraded (m : ModuleId) (bin : BinId) (found : Option StoreFault) (s : State) :
    GoesOnGraded s (execRingStoreBinExamination m bin found s) := by
  have recorded : KeepsGrades s { s with ringFault := s.ringFault.or found } := .of_modules rfl
  refine goesOnGraded_ite (recorded.trans (setRing_keepsGrades ?_ rfl rfl rfl)) (.refl s)
  exact Vector.set_getElem_self bin.isLt

theorem exec_goesOnGraded (i : Instr) (s : State) : GoesOnGraded s (exec i s) := by
  cases i with
  | sample => exact goesOnGraded_port _ (takeSample_keepsGrades ..)
  | burstOpen => exact goesOnGraded_port _ (takeBurstOpen_keepsGrades ..)
  | burstClose => exact goesOnGraded_port _ (takeBurstClose_keepsGrades ..)
  | levelStep => exact goesOnGraded_port _ (takeLevelStep_keepsGrades ..)
  | segment => exact goesOnGraded_port _ (takeSegment_keepsGrades ..)
  | forwardPassThrough => exact goesOnGraded_port _ (sortForward_keepsGrades ..)
  | forwardFrameFailingItsCheck => exact goesOnGraded_port _ (sortForward_keepsGrades ..)
  | forwardOutputSent =>
    have sent : KeepsGrades s { s with forwardOutput := s.forwardOutput.tail } := .of_modules rfl
    exact goesOnGraded_ite (.refl s) (sent.trans (takeWaiting_keepsGrades ..))
  | telemetry => exact goesOnGraded_next (radioPort_keepsGrades _ (readTelemetry_keepsGrades ..))
  | returnFrame => exact goesOnGraded_next (radioPort_keepsGrades _ (sortReturn_keepsGrades ..))
  | mergeArbiterChoice =>
    refine goesOnGraded_ite (.refl s) ?_
    rw [mergeChoice_writes]
    exact .of_modules rfl
  | binExpiry m => exact goesOnGraded_ite (.refl s) (advance_keepsGrades m s)
  | holdExpiry m => exact goesOnGraded_ite (expireHold_keepsGrades m s) (.refl s)
  | silenceTimerExpiry m => exact goesOnGraded_ite (expireSilence_keepsGrades m s) (.refl s)
  | graceExpiry p => exact goesOnGraded_ite (.refl s) (truncateBurst_keepsGrades p s)
  | gapTimerExpiry => exact execGapTimerExpiry_goesOnGraded s
  | commitCompletion => exact execCommitCompletion_goesOnGraded s
  | testRunCompletion table ring loop => exact execTestRunCompletion_goesOnGraded table ring loop s
  | powerUpTestsCompletion table ring => exact goesOnGraded_ite (completePowerUp_keepsGrades table ring s) (.refl s)
  | scrubCompletion m => exact goesOnGraded_ite (completeScrub_keepsGrades m s) (.refl s)
  | ringStoreBinExamination m bin found => exact execRingStoreBinExamination_goesOnGraded m bin found s
  | resetPinAssertion => exact goesOnGraded_next (keepsGrades_of_reset rfl)
  | resetPinRelease => exact goesOnGraded_next (keepsGrades_of_reset rfl)
  | droopAssertingEdge => exact execDroopAssertingEdge_goesOnGraded s
  | droopReleasingEdge => exact goesOnGraded_next (.of_modules rfl)
  | identify params => exact goesOnGraded_control (commandCode .identify) params s
  | readStatus params => exact goesOnGraded_control (commandCode .readStatus) params s
  | setPath params => exact goesOnGraded_control (commandCode .setPath) params s
  | setModule params => exact goesOnGraded_control (commandCode .setModule) params s
  | setLimits params => exact goesOnGraded_control (commandCode .setLimits) params s
  | setDevice params => exact goesOnGraded_control (commandCode .setDevice) params s
  | loadOpen params => exact goesOnGraded_control (commandCode .loadOpen) params s
  | loadAbort params => exact goesOnGraded_control (commandCode .loadAbort) params s
  | commit params => exact goesOnGraded_control (commandCode .commit) params s
  | govern params => exact goesOnGraded_control (commandCode .govern) params s
  | standby params => exact goesOnGraded_control (commandCode .standby) params s
  | clearLatch params => exact goesOnGraded_control (commandCode .clearLatch) params s
  | snapshot params => exact goesOnGraded_control (commandCode .snapshot) params s
  | readEntry params => exact goesOnGraded_control (commandCode .readEntry) params s
  | runTests params => exact goesOnGraded_control (commandCode .runTests) params s
  | softRestart params => exact goesOnGraded_control (commandCode .softRestart) params s
  | hardReset params a b =>
    have strapped : KeepsGrades s { s with nsel1 := a, nsel0 := b } := .of_modules rfl
    have taken := takeControl_keepsGrades (commandCode .hardReset) params { s with nsel1 := a, nsel0 := b }
    exact goesOnGraded_next (strapped.trans (modemPort_keepsGrades _ taken))
  | unknownCommand code params => exact goesOnGraded_control code params s

theorem step_keepsGrades {s t : State} (h : step s = .next t) : KeepsGrades s t := by
  unfold step at h
  split at h
  · next c rest _ =>
    have taken : KeepsGrades s { s with pending := rest } := .of_modules rfl
    exact taken.trans (exec_goesOnGraded c _ t h)
  · unfold idle at h
    split at h
    · exact exec_goesOnGraded _ s t h
    · exact goesOnGraded_next (passTime_keepsGrades s) t h

/-- Settles O58: each module's laws are kept by each operation, on whatever module and in whatever device state; only
accrual, the ring advance, a temperature reading, a silence expiry and a commit's completion write what they read. -/
theorem everyStepKeepsTheWindowAndTheGrades : Obligations.EveryStepKeepsTheWindowAndTheGrades := by
  intro s t hwindow henergy hthermal hstep
  have before := (gradedModules_iff s).mpr ⟨hwindow, henergy, hthermal⟩
  exact (gradedModules_iff t).mp fun m => (step_keepsGrades hstep).module m (before m)

end Sys2Proof.Machine
end

section
/-! ### Reports and choices as the statements spell them (R142, R143, R148, R162) -/

namespace Sys2Proof.Machine

open Sys2Proof.Claim

theorem verdictWord_eq_code (v : Verdict) : verdictWord v = verdictCode v := by
  rcases v with _ | r | r
  · rfl
  · cases r <;> rfl
  · cases r <;> rfl

theorem testReasonWord_eq_code (r : Option TestReason) : testReasonWord r = reasonCode r := by
  rcases r with _ | ⟨⟨⟩ | ⟨⟩⟩ | ⟨⟨⟩ | ⟨⟩ | ⟨⟩⟩ | m <;> rfl

theorem lockdownWords_eq_codes (c : LockdownCause) : [lockdownCauseWord c, lockdownModuleWord c] = lockdownCodes c := by
  cases c <;> rfl

theorem causeWord_eq_code (c : NoticeCause) : causeWord c = causeCode c := by
  rcases c with ⟨⟨⟩⟩ | _ | _ | _ | _ <;> rfl

/-- The words after the first of a REPORT frame's body, by the statements' codes. -/
theorem reportFields_eq_tail (gap : Bool) (r : Report) : reportFields r = (reportBody gap r).tail := by
  cases r with
  | answer code outcome detail => cases outcome <;> rfl
  | loadResult outcome start count taken received => cases outcome <;> cases received <;> rfl
  | deviceState state results cause =>
    have hstate : deviceStateWord state = deviceCode state := by cases state <;> rfl
    have hlast : testWord results.last = testCode results.last := by rcases results.last with _ | ⟨⟩ <;> rfl
    simp only [reportFields, reportBody, hstate, hlast, testReasonWord_eq_code, ← lockdownWords_eq_codes]
    rfl
  | throttleNotice m old new cause strikes back =>
    have hthrottle (t : ThrottleState) : throttleWord t = throttleCode t := by cases t <;> rfl
    simp only [reportFields, reportBody, hthrottle, causeWord_eq_code]
    rfl
  | burstVerdict p m verdict requested granted declared thermal energy inFlight preempted =>
    have hlevel : levelWord granted = levelCode granted := by cases granted <;> rfl
    simp only [reportFields, reportBody, verdictWord_eq_code, hlevel]
    rfl

theorem reportKind_eq_head (gap : Bool) (r : Report) :
    some (reportKind r ||| (if gap then 0x8000 else 0)) = (reportBody gap r).head? := by
  cases gap <;> cases r <;> simp [reportKind, reportBody]

theorem reportFrame_eq_sent (node : Fin 4) (gap : Bool) (r : Report) :
    reportFrame node gap r = reportSent node gap r := by
  have hbody : (reportKind r ||| (if gap then 0x8000 else 0)) :: reportFields r = reportBody gap r := by
    rw [reportFields_eq_tail gap r]
    exact List.cons_head?_tail (reportKind_eq_head gap r).symm
  unfold reportFrame
  rw [hbody]
  rfl

theorem chooseReport_eq_sent (r : Report) (rs : List Report) (s : State) :
    chooseReport r rs s = { s with
      reports := rs, reportGap := false, runCount := 0,
      returnLane := some (reportSent s.nodeNumber s.reportGap r) } := by
  rw [chooseReport, reportFrame_eq_sent]

theorem mergeChoice_eq_chosen (s : State) : mergeChoice s = chosen s := by
  cases hb : s.returnBuffer with
  | nil =>
    cases hr : s.reports with
    | nil => simp only [mergeChoice, chosen, hb, hr]
    | cons r rs => simp only [mergeChoice, chosen, hb, hr, chooseReport_eq_sent]
  | cons f fs =>
    cases hr : s.reports with
    | nil => simp only [mergeChoice, chosen, hb, hr, chooseRadio]
    | cons r rs =>
      simp only [mergeChoice, chosen, hb, hr, chooseRadio, chooseReport_eq_sent, Config.maxRunCount]

theorem chooseIfIdle_eq_settled (s : State) : chooseIfIdle s = settled s := by
  unfold chooseIfIdle settled
  simp only [Option.isNone_iff_eq_none, mergeChoice_eq_chosen]

theorem enterBuffer_eq_buffered (f : Frame) (s : State) : enterBuffer f s = buffered f s := by
  unfold enterBuffer
  rw [chooseIfIdle_eq_settled]
  rfl

end Sys2Proof.Machine
end

section
/-! ### Readings, silence and droop (R21 to R34, R114) -/

namespace Sys2Proof.Machine

open Sys2Proof.Claim

/-! ### A word that names a module -/

theorem wordModule_of_eq {w : Word} {m : ModuleId} (h : w.toNat = m.val) : wordModule w = some m := by
  unfold wordModule
  rw [dif_pos (h ▸ m.isLt)]
  exact congrArg some (Fin.ext h)

theorem wordModule_of_gt {w : Word} (h : 3 < w.toNat) : wordModule w = none := by
  unfold wordModule
  rw [dif_neg (Nat.not_lt.mpr h)]

/-! ### A TELEMETRY frame (R21, R32 to R34) -/

/-- A TELEMETRY frame is read, and then enters the return buffer as it came. -/
theorem exec_telemetry_read {s : State} (h : s.deviceState ≠ .offline) (spare : BitVec 12)
    (w presence temperature current reflection : Word) :
    exec (.telemetry spare w presence temperature current reflection) s =
      .next (buffered (telemetryFrame spare w presence temperature current reflection)
        (readTelemetry w presence temperature current reflection s)) := by
  rw [← enterBuffer_eq_buffered, ← radioPort_passing _ h (passes_telemetryFrame ..)]
  rfl

theorem reflectionReading_eq (w : Word) : (if 255 < w.toNat then 255 else w.toNat) = reflectionReading w := by
  unfold reflectionReading
  split
  · next h => exact (Nat.min_eq_right h.le).symm
  · next h => exact (Nat.min_eq_left (Nat.not_lt.mp h)).symm

/-- The current is taken where it is present, then the reflection where it is. -/
theorem otherReadings_eq (m : ModuleId) (presence current reflection : Word) (s : State) :
    otherReadings m presence current reflection s =
      let s1 := if presence.getLsbD 1 then takeCurrent m current s else s
      if presence.getLsbD 2 then takeReflection m reflection s1 else s1 := by
  unfold otherReadings
  simp only [reflectionReading_eq]
  cases presence.getLsbD 1 <;> cases presence.getLsbD 2 <;> rfl

/-- The frame's readings for a module: the temperature where it is present, then the others. -/
theorem readTelemetry_named {w : Word} {m : ModuleId} (h : w.toNat = m.val)
    (presence temperature current reflection : Word) (s : State) :
    readTelemetry w presence temperature current reflection s = otherReadings m presence current reflection
      (if presence.getLsbD 0 then takeTemperature m temperature s else s) := by
  rw [otherReadings_eq, readTelemetry, wordModule_of_eq h]

theorem readTelemetry_unnamed {w : Word} (h : 3 < w.toNat) (presence temperature current reflection : Word)
    (s : State) : readTelemetry w presence temperature current reflection s = s := by
  rw [readTelemetry, wordModule_of_gt h]

/-- Settles O21: the frame is read and enters the buffer; without a temperature what is read is the other readings, and
a word above 3 names no module to read them for. -/
theorem readingsAboveTheirLimitsFire : Obligations.ReadingsAboveTheirLimitsFire := by
  intro spare w presence temperature current reflection s hon frame run
  have hrun : run = .next (buffered frame (readTelemetry w presence temperature current reflection s)) :=
    exec_telemetry_read hon ..
  refine ⟨fun hw => ?_, fun m hm hp => ?_⟩
  · rw [hrun, readTelemetry_unnamed hw]
  · rw [hrun, readTelemetry_named hm, if_neg (Bool.eq_false_iff.mp hp)]

/-! ### The temperature (R22, R24, R27) -/

theorem silenceRun_eq_start (code : Nat) : silenceRun code = silenceStart code := by
  unfold silenceRun silenceStart Config.unitsPer64ms
  rw [Nat.mul_comm]

/-- Module `m` after a temperature reading that leaves the filter at `f` and the grade at `g`. -/
def temperatureTaken (m : ModuleId) (f : Int) (g : Nat) (s : State) : State :=
  let x := moduleAt s m
  setModuleAt m { x with context := { x.context with
    telemetry := .fresh, filtered := some f, thermalGrade := g,
    silenceTimer := silenceStart x.context.silenceCode } } s

theorem takeTemperature_seeds {m : ModuleId} {s : State}
    (h : (moduleAt s m).context.telemetry = .fresh → (moduleAt s m).context.filtered = none) (w : Word) :
    takeTemperature m w s =
      temperatureTaken m (temperatureReading w) (freshGrade (profileOf s m) (temperatureReading w)) s := by
  rw [takeTemperature, readTemperature_seeds h, silenceRun_eq_start]
  rfl

theorem takeTemperature_moves {m : ModuleId} {s : State} {old : Int}
    (h : (moduleAt s m).context.telemetry = .fresh) (hf : (moduleAt s m).context.filtered = some old) (w : Word) :
    let f := filterStep old (temperatureReading w) (moduleAt s m).context.filterShift
    takeTemperature m w s = temperatureTaken m f (nextGrade (profileOf s m) f (moduleAt s m).context.thermalGrade) s := by
  dsimp only
  rw [takeTemperature, readTemperature_moves h hf, silenceRun_eq_start]
  rfl

theorem profileOf_none {s : State} {m : ModuleId} (h : (moduleAt s m).active = none) : profileOf s m = none := by
  rw [profileOf, h]
  rfl

theorem profileOf_some {s : State} {m : ModuleId} {a : ActiveProfile} (h : (moduleAt s m).active = some a) :
    profileOf s m = some a.words := by
  rw [profileOf, h]
  rfl

/-- R24's quotient is rounded toward negative infinity. -/
theorem filterStep_eq_fdiv (old reading : Int) (k : Nat) :
    filterStep old reading k = old + Int.fdiv (reading - old) (2 ^ k) := by
  rw [filterStep, Int.fdiv_eq_ediv_of_nonneg _ (Int.pow_nonneg (by decide))]

/-- Settles O20: the frame is read, its temperature first; a FRESH module with a filtered value moves its filter and is
graded again from there, any other is seeded and graded afresh. -/
theorem aTemperatureReadingIsFilteredAndGraded : Obligations.ATemperatureReadingIsFilteredAndGraded := by
  intro spare w presence temperature current reflection m s hon hm hp x c reading
  have hrun (f : Int) (g : Nat) (htaken : takeTemperature m temperature s = temperatureTaken m f g s) :
      exec (.telemetry spare w presence temperature current reflection) s =
        .next (buffered (telemetryFrame spare w presence temperature current reflection)
          (otherReadings m presence current reflection (temperatureTaken m f g s))) := by
    rw [exec_telemetry_read hon, readTelemetry_named hm, if_pos hp, htaken]
  by_cases hmoves : ∃ old, c.telemetry = .fresh ∧ c.filtered = some old
  · obtain ⟨old, hfresh, hold⟩ := hmoves
    refine ⟨_, _, hrun _ _ (takeTemperature_moves hfresh hold temperature), fun h => absurd hfresh h, ?_⟩
    intro old' _ hold'
    obtain rfl : old = old' := Option.some.inj (hold.symm.trans hold')
    refine ⟨filterStep_eq_fdiv .., fun hnone => ?_, fun a ha => ?_⟩
    · rw [profileOf_none hnone]
      rfl
    · rw [profileOf_some ha]
      exact regrade_regraded ..
  · have hseeds : c.telemetry = .fresh → c.filtered = none := fun hfresh =>
      Option.eq_none_iff_forall_ne_some.mpr fun old hold => hmoves ⟨old, hfresh, hold⟩
    refine ⟨_, _, hrun _ _ (takeTemperature_seeds hseeds temperature),
      fun _ => ⟨rfl, fun hnone => ?_, fun a ha => ?_⟩, fun old hfresh hold => absurd ⟨old, hfresh, hold⟩ hmoves⟩
    · rw [profileOf_none hnone]
      rfl
    · rw [profileOf_some ha]
      exact risingGrade_highest ..

/-! ### Silence and the droop line (R31, R114) -/

theorem expireSilence_fresh {m : ModuleId} {s : State} (h : (moduleAt s m).context.telemetry = .fresh) :
    expireSilence m s = fire m .silence (setModuleAt m { moduleAt s m with context := { (moduleAt s m).context with
      silenceTimer := none, telemetry := .stale, thermalGrade := 7 } } s) := by
  rw [expireSilence, if_pos h]
  rfl

theorem expireSilence_other {m : ModuleId} {s : State} (h : (moduleAt s m).context.telemetry ≠ .fresh) :
    expireSilence m s = setModuleAt m { moduleAt s m with context := { (moduleAt s m).context with
      silenceTimer := none } } s := by
  rw [expireSilence, if_neg h]
  rfl

/-- A silence timer that runs, anywhere but in OFFLINE, expires. -/
theorem exec_silenceTimerExpiry_running {m : ModuleId} {s : State} (h : s.deviceState ≠ .offline)
    (ht : (moduleAt s m).context.silenceTimer.isSome = true) :
    exec (.silenceTimerExpiry m) s = .next (expireSilence m s) := if_pos ⟨h, ht⟩

/-- Settles O24: an asserting edge fires on each module in turn; a silence expiry acts by the telemetry state. -/
theorem silenceAndDroopFireTheirCriteria : Obligations.SilenceAndDroopFireTheirCriteria := by
  intro s
  refine ⟨fun hon => if_neg hon, rfl, fun m hon ht => ⟨fun hfresh => ?_, fun hother => ?_⟩⟩
  · rw [exec_silenceTimerExpiry_running hon ht, expireSilence_fresh hfresh]
  · rw [exec_silenceTimerExpiry_running hon ht, expireSilence_other hother]

end Sys2Proof.Machine
end

section
/-! ### The settings commands (R30, R35, R36, R155) -/

namespace Sys2Proof.Machine

open Sys2Proof.Claim

/-! ### SET MODULE (R35) -/

theorem moduleSettingsInRange_iff (bin shift silence mask : Word) :
    moduleSettingsInRange bin shift silence mask = true ↔
      1 ≤ bin.toNat ∧ bin.toNat ≤ 255 ∧ shift.toNat ≤ 7 ∧ silence.toNat ≤ 15 ∧ mask.toNat ≤ 31 := by
  simp only [moduleSettingsInRange, Bool.and_eq_true, decide_eq_true_eq, and_assoc, Nat.lt_succ_iff]

theorem doSetModule_refused {w bin shift silence mask : Word} {s : State}
    (h : 3 < w.toNat ∨ moduleSettingsInRange bin shift silence mask = false) :
    doSetModule [w, bin, shift, silence, mask] s = refuse .setModule .range s := by
  unfold doSetModule
  dsimp only
  split
  · next m hm hr =>
    rcases h with hw | hout
    · exact nomatch (wordModule_of_gt hw).symm.trans hm
    · exact nomatch hout.symm.trans hr
  · rfl

theorem doSetModule_written {w bin shift silence mask : Word} {m : ModuleId} (hm : w.toNat = m.val)
    (hr : moduleSettingsInRange bin shift silence mask = true) (s : State) :
    doSetModule [w, bin, shift, silence, mask] s =
      done .setModule [w] (setContext m (writeSettings bin shift silence mask (moduleAt s m).context) s) := by
  simp only [doSetModule, wordModule_of_eq hm, hr]

/-! ### SET LIMITS (R36) -/

theorem doSetLimits_refused {w current reflection slope : Word} {s : State}
    (h : 3 < w.toNat ∨ 255 < reflection.toNat ∨ 255 < slope.toNat) :
    doSetLimits [w, current, reflection, slope] s = refuse .setLimits .range s := by
  unfold doSetLimits
  dsimp only
  split
  · next m hm hr =>
    obtain ⟨hreflection, hslope⟩ := of_decide_eq_true hr
    rcases h with hw | hout | hout
    · exact nomatch (wordModule_of_gt hw).symm.trans hm
    · exact absurd hout (Nat.not_lt.mpr hreflection)
    · exact absurd hout (Nat.not_lt.mpr hslope)
  · rfl

theorem doSetLimits_written {w current reflection slope : Word} {m : ModuleId} (hm : w.toNat = m.val)
    (hreflection : reflection.toNat ≤ 255) (hslope : slope.toNat ≤ 255) (s : State) :
    doSetLimits [w, current, reflection, slope] s =
      done .setLimits [w] (setContext m (writeLimits current reflection slope (moduleAt s m).context) s) := by
  simp only [doSetLimits, wordModule_of_eq hm, decide_eq_true (And.intro hreflection hslope)]

/-! ### SET DEVICE (R155) -/

/-- A mode word of 0 or 1 names a counter mode, any other none. -/
theorem wordCounterMode_eq (w : Word) : wordCounterMode w =
    if w.toNat ≤ 1 then some (if w.toNat = 1 then .wrap else .saturate) else none := by
  unfold wordCounterMode
  by_cases h0 : w = 0
  · subst h0; rfl
  · by_cases h1 : w = 1
    · subst h1; rfl
    · rw [if_neg h0, if_neg h1, if_neg (by bv_omega)]

theorem doSetDevice_refused {ceiling grace mode : Word} {s : State}
    (h : ¬ (ceiling.toNat ≤ 127 ∧ 1 ≤ grace.toNat ∧ grace.toNat ≤ 15 ∧ mode.toNat ≤ 1)) :
    doSetDevice [ceiling, grace, mode] s = refuse .setDevice .range s := by
  unfold doSetDevice
  dsimp only
  rw [wordCounterMode_eq]
  split
  · next cm hmode hr =>
    obtain ⟨hceiling, hlow, hhigh⟩ := of_decide_eq_true hr
    have hnamed : ¬ mode.toNat ≤ 1 := fun hle => h ⟨hceiling, hlow, hhigh, hle⟩
    rw [if_neg hnamed] at hmode
    exact nomatch hmode
  · rfl

theorem doSetDevice_written {ceiling grace mode : Word}
    (h : ceiling.toNat ≤ 127 ∧ 1 ≤ grace.toNat ∧ grace.toNat ≤ 15 ∧ mode.toNat ≤ 1) (s : State) :
    doSetDevice [ceiling, grace, mode] s = done .setDevice [] { s with
      standbyCeiling := ceiling.toNat, graceCode := grace.toNat,
      counterMode := if mode.toNat = 1 then .wrap else .saturate } := by
  obtain ⟨hceiling, hlow, hhigh, hmode⟩ := h
  have hr : decide (ceiling.toNat ≤ 127 ∧ 1 ≤ grace.toNat ∧ grace.toNat ≤ 15) = true :=
    decide_eq_true ⟨hceiling, hlow, hhigh⟩
  simp only [doSetDevice, wordCounterMode_eq, if_pos hmode, hr]

/-- Settles O51: each command is executed; out of range it is refused, in range it writes its settings in one update. -/
theorem settingsAreWrittenTogether : Obligations.SettingsAreWrittenTogether := by
  intro w w1 w2 w3 w4 s hexecuting timing limits device timingInRange deviceInRange
  obtain ⟨⟨⟨hon, hempty, hnowait⟩, hroom⟩, hworks, hidle⟩ := hexecuting
  have htiming : timing = .next (doSetModule [w, w1, w2, w3, w4] s) :=
    exec_setModule_executed hon hempty hnowait hroom hworks hidle ..
  have hlimits : limits = .next (doSetLimits [w, w1, w2, w3] s) :=
    exec_setLimits_executed hon hempty hnowait hroom hworks hidle ..
  have hdevice : device = .next (doSetDevice [w1, w2, w3] s) :=
    exec_setDevice_executed hon hempty hnowait hroom hworks hidle ..
  have hrange : moduleSettingsInRange w1 w2 w3 w4 = true ↔ timingInRange := moduleSettingsInRange_iff ..
  rw [htiming, hlimits, hdevice, ← hrange, Bool.not_eq_true]
  refine ⟨fun h => ?_, fun h => ?_, fun h => ?_, fun h => ?_, fun m hm => ?_⟩
  · rw [doSetModule_refused h]
    rfl
  · rw [doSetLimits_refused h]
    rfl
  · rw [doSetDevice_refused h]
    rfl
  · rw [doSetDevice_written h]
    rfl
  · refine ⟨fun h => ?_, fun hreflection hslope => ?_⟩
    · rw [doSetModule_written hm h, writeSettings, silenceRun_eq_start]
      rfl
    · rw [doSetLimits_written hm hreflection hslope]
      rfl

end Sys2Proof.Machine
end

section
/-! ### The ring advance (R43, R45, R47, R49, R50, R52, R104) -/

namespace Sys2Proof.Machine

open Sys2Proof.Claim

/-! ### The ring as the advance leaves it (R43, R45, R47, R49) -/

/-- The grade counts the thresholds 1 to 7; the statements count them from 0. -/
theorem energyGradeOf_eq_length (p : Profile) (energy : Nat) :
    energyGradeOf p energy = ((List.range 7).filter fun i => energyThreshold p (i + 1) ≤ energy).length := by
  have numbers : [1, 2, 3, 4, 5, 6, 7] = (List.range 7).map (· + 1) := rfl
  rw [energyGradeOf, numbers, List.filter_map, List.length_map]
  rfl

/-- A ring put in a module's place takes the grade of its own energy, or keeps the module's (R47, R48). -/
theorem gradeEnergy_eq_gradeFor {s : State} {m : ModuleId} {r : Ring}
    (h : r.energyGrade = (moduleAt s m).ring.energyGrade) :
    gradeEnergy (profileOf s m) r = { r with energyGrade := gradeFor (moduleAt s m) r.windowEnergy } := by
  unfold gradeFor
  cases ha : (moduleAt s m).active with
  | none =>
    rw [profileOf_none ha]
    dsimp only
    rw [← h]
    rfl
  | some a =>
    rw [profileOf_some ha]
    dsimp only
    rw [← energyGradeOf_eq_length]
    rfl

theorem nextReference_eq (c : ModuleContext) :
    nextReference c = if c.telemetry = .none then none else c.filtered := by
  unfold nextReference
  cases c.telemetry <;> rfl

/-- A module's ring after the advance: the oldest bin has left the sums and is current, cleared; the grade, the slope
reference and the bin timer are new. -/
def movedRing (x : ModuleState) : Ring :=
  let r := x.ring
  let i := nextBin r.current
  let oldest := r.bins[i.val]'i.isLt
  { r with
    current := i, bins := r.bins.set i.val .empty i.isLt,
    windowEnergy := r.windowEnergy - oldest.energy, windowFrames := r.windowFrames - oldest.frames,
    energyGrade := gradeFor x (r.windowEnergy - oldest.energy),
    slopeReference := if x.context.telemetry = .none then none else x.context.filtered,
    binTimer := 64 * x.context.binPeriodCode }

/-- The part with module `m`'s ring moved, before SLOPE fires. -/
def ringMoved (m : ModuleId) (s : State) : State :=
  setModuleAt m { moduleAt s m with ring := movedRing (moduleAt s m) } s

/-- The state in which the SLOPE stage of an advance starts: the ring is advanced and graded, its reference still the
old one. -/
def ringGraded (m : ModuleId) (s : State) : State :=
  setRing m (gradeEnergy (profileOf s m)
    (advanceRing (moduleAt s m).context.binPeriodCode (moduleAt s m).ring)) s

theorem ringGraded_module (m : ModuleId) (s : State) : moduleAt (ringGraded m s) m =
    { moduleAt s m with ring :=
      { movedRing (moduleAt s m) with slopeReference := (moduleAt s m).ring.slopeReference } } := by
  rw [ringGraded, setRing_eq, moduleAt_setModuleAt_same,
    gradeEnergy_eq_gradeFor (r := advanceRing _ _) rfl, movedRing, Nat.mul_comm 64]
  rfl

/-- What the SLOPE stage writes first is the reference that the moved ring holds. -/
theorem setRing_reference_ringGraded (m : ModuleId) (s : State) :
    setRing m { (moduleAt (ringGraded m s) m).ring with
      slopeReference := nextReference (moduleAt (ringGraded m s) m).context } (ringGraded m s) = ringMoved m s := by
  rw [setRing_eq, ringGraded_module, nextReference_eq, ringGraded, setRing_eq, setModuleAt_twice]
  rfl

/-! ### SLOPE (R50) -/

/-- R50: FRESH, with a reference held, and the filtered temperature above it by more than the slope limit. -/
def Steep (x : ModuleState) : Prop :=
  x.context.telemetry = .fresh ∧ ∃ old f, x.ring.slopeReference = some old ∧ x.context.filtered = some f ∧
    (x.context.slopeLimit : Int) < f - old

theorem slopeFires_iff_steep (x : ModuleState) : slopeFires x.context x.ring.slopeReference = true ↔ Steep x := by
  unfold slopeFires Steep
  split
  · next old f hfresh hold hf => simp [hfresh, hold, hf]
  · next hother =>
    refine ⟨nofun, ?_⟩
    rintro ⟨hfresh, old, f, hold, hf, -⟩
    exact (hother old f hfresh hold hf).elim

/-- The SLOPE stage fires by the reference held before the advance, on the part whose ring has moved. -/
theorem slopeStage_ringGraded (m : ModuleId) (s : State) : slopeStage m (ringGraded m s) =
    if slopeFires (moduleAt s m).context (moduleAt s m).ring.slopeReference then fire m .slope (ringMoved m s)
    else ringMoved m s := by
  unfold slopeStage
  dsimp only
  rw [setRing_reference_ringGraded, ringGraded_module]

theorem slopeStage_of_steep {m : ModuleId} {s : State} (h : Steep (moduleAt s m)) :
    slopeStage m (ringGraded m s) = fire m .slope (ringMoved m s) := by
  rw [slopeStage_ringGraded, if_pos ((slopeFires_iff_steep _).mpr h)]

theorem slopeStage_of_not_steep {m : ModuleId} {s : State} (h : ¬ Steep (moduleAt s m)) :
    slopeStage m (ringGraded m s) = ringMoved m s := by
  rw [slopeStage_ringGraded, if_neg (mt (slopeFires_iff_steep _).mp h)]

/-! ### The release step (R104) -/

/-- The notice of a release carries the values after it (R104, R109). -/
theorem notice_release (m : ModuleId) (t : ThrottleContext) (s : State) :
    notice m .releasing .release (setThrottle m { t with state := .normal, clampBackoff := 0, strikes := 0 } s) =
      offer (.throttleNotice m .releasing .normal .release 0 0)
        (setThrottle m { t with state := .normal, clampBackoff := 0, strikes := 0 } s) := by
  rw [notice, setThrottle_eq, moduleAt_setModuleAt_same]

theorem takeReleaseStep_eq_stepped (m : ModuleId) (s : State) : takeReleaseStep m s = releaseStepped m s := by
  unfold takeReleaseStep releaseStepped
  dsimp only
  split
  · next p hr hp =>
    obtain ⟨a, ha, rfl⟩ := Option.map_eq_some_iff.mp hp
    rw [ha, notice_release]
    dsimp only
    rw [if_neg (not_not.mpr hr)]
  · next hother =>
    split
    · rfl
    · next a ha => rw [if_pos fun hr => hother a.words hr (profileOf_some ha)]

/-! ### The start of a scrub (R45, R52) -/

/-- A scrub of `m` may start, or already runs where one might (R52). -/
def ScrubAllowed (m : ModuleId) (s : State) : Prop :=
  (moduleAt s m).active.isSome = true ∧ (∀ k, s.longCommand ≠ .commit m k) ∧
    (s.deviceState = .standby ∨ s.deviceState = .governing)

theorem committing_eq_false_iff (s : State) (m : ModuleId) :
    committing s m = false ↔ ∀ k, s.longCommand ≠ .commit m k := by
  unfold committing
  cases s.longCommand <;> simp

theorem scrubMayStart_iff (s : State) (m : ModuleId) :
    scrubMayStart s m = true ↔ ScrubAllowed m s ∧ (moduleAt s m).scrub = false := by
  simp only [scrubMayStart, ScrubAllowed, Bool.and_eq_true, Bool.or_eq_true, Bool.not_eq_true', beq_iff_eq,
    committing_eq_false_iff]
  tauto

/-- At index 0 a scrub runs after the stage where one is allowed: started, or already in progress. -/
theorem scrubStage_starts {m : ModuleId} {s : State} (hi : (moduleAt s m).ring.current = 0) (h : ScrubAllowed m s) :
    scrubStage m s = setModuleAt m { moduleAt s m with scrub := true } s := by
  unfold scrubStage
  cases hscrub : (moduleAt s m).scrub with
  | false =>
    rw [if_pos ⟨hi, (scrubMayStart_iff s m).mpr ⟨h, hscrub⟩⟩]
    rfl
  | true =>
    have runs : ¬ scrubMayStart s m = true := fun e => by
      have idle := ((scrubMayStart_iff s m).mp e).2
      exact nomatch hscrub.symm.trans idle
    rw [if_neg fun e => runs e.2]
    exact (setModuleAt_of_eq (by rw [← hscrub])).symm

theorem scrubStage_leaves {m : ModuleId} {s : State} (h : ¬ ((moduleAt s m).ring.current = 0 ∧ ScrubAllowed m s)) :
    scrubStage m s = s := by
  unfold scrubStage
  exact if_neg fun ⟨hi, hmay⟩ => h ⟨hi, ((scrubMayStart_iff s m).mp hmay).1⟩

/-! ### The advance -/

/-- The part of an advance before its scrub: the moved ring, SLOPE, and the release step. -/
def steppedAdvance (m : ModuleId) (s : State) : State := takeReleaseStep m (slopeStage m (ringGraded m s))

theorem advance_eq_scrubStage (m : ModuleId) (s : State) : advance m s = scrubStage m (steppedAdvance m s) := rfl

theorem exec_binExpiry_running {s : State} (h : s.deviceState ≠ .offline) (m : ModuleId) :
    exec (.binExpiry m) s = .next (advance m s) := if_neg h

theorem steppedAdvance_writes (m : ModuleId) (s : State) : OnlyBurstsAndReports s (steppedAdvance m s) :=
  ((show OnlyBurstsAndReports s (ringGraded m s) from rfl).trans (slopeStage_writes ..)).trans
    (takeReleaseStep_writes ..)

/-- Before its scrub the advance moves the module's ring, and may change its throttle context and its weight in
flight. -/
theorem steppedAdvance_module (m : ModuleId) (s : State) : moduleAt (steppedAdvance m s) m =
    { moduleAt s m with
      ring := movedRing (moduleAt s m),
      throttle := (moduleAt (steppedAdvance m s) m).throttle,
      accounts := { (moduleAt s m).accounts with
        inFlight := (moduleAt (steppedAdvance m s) m).accounts.inFlight } } := by
  have released := takeReleaseStep_module m (slopeStage m (ringGraded m s))
  have sloped := slopeStage_module m (ringGraded m s)
  rw [ringGraded_module, nextReference_eq] at sloped
  unfold steppedAdvance
  rw [released, sloped]
  rfl

/-- What allows a scrub is the same before the advance and at its last stage. -/
theorem scrubAllowed_steppedAdvance (m : ModuleId) (s : State) :
    ScrubAllowed m (steppedAdvance m s) ↔ ScrubAllowed m s := by
  unfold ScrubAllowed
  rw [steppedAdvance_module, steppedAdvance_writes m s]

/-- An advance to index 0 starts a scrub where one is allowed. -/
abbrev ScrubDue (m : ModuleId) (s : State) : Prop := nextBin (moduleAt s m).ring.current = 0 ∧ ScrubAllowed m s

theorem scrubDue_iff (m : ModuleId) (s : State) : ScrubDue m s ↔
    (moduleAt (steppedAdvance m s) m).ring.current = 0 ∧ ScrubAllowed m (steppedAdvance m s) := by
  rw [scrubAllowed_steppedAdvance, steppedAdvance_module]
  rfl

theorem advance_of_scrubDue {m : ModuleId} {s : State} (h : ScrubDue m s) : advance m s =
    setModuleAt m { moduleAt (steppedAdvance m s) m with scrub := true } (steppedAdvance m s) := by
  obtain ⟨hi, hallowed⟩ := (scrubDue_iff m s).mp h
  rw [advance_eq_scrubStage, scrubStage_starts hi hallowed]

theorem advance_of_not_scrubDue {m : ModuleId} {s : State} (h : ¬ ScrubDue m s) :
    advance m s = steppedAdvance m s := by
  rw [advance_eq_scrubStage, scrubStage_leaves (mt (scrubDue_iff m s).mpr h)]

/-- A scrub aside, the module is after the advance as at its last stage. -/
theorem advance_module (m : ModuleId) (s : State) : moduleAt (advance m s) m =
    { moduleAt (steppedAdvance m s) m with scrub := (moduleAt (advance m s) m).scrub } := by
  by_cases h : ScrubDue m s
  · rw [advance_of_scrubDue h, moduleAt_setModuleAt_same]
  · rw [advance_of_not_scrubDue h]

theorem advance_scrub_iff (m : ModuleId) (s : State) :
    (moduleAt (advance m s) m).scrub = true ↔ (moduleAt s m).scrub = true ∨ ScrubDue m s := by
  by_cases h : ScrubDue m s
  · rw [advance_of_scrubDue h, moduleAt_setModuleAt_same]
    exact iff_of_true rfl (.inr h)
  · rw [advance_of_not_scrubDue h, steppedAdvance_module, or_iff_left h]

/-- Settles O26: the stages leave of their module the moved ring; the last one sets its scrub. -/
theorem aRingAdvanceDropsTheOldestBin : Obligations.ARingAdvanceDropsTheOldestBin := by
  intro m s hon x r i oldest starts
  have hmodule := advance_module m s
  rw [steppedAdvance_module] at hmodule
  refine ⟨advance m s, exec_binExpiry_running hon m, advance_writes m s, ?_, ?_, ?_, ?_, advance_scrub_iff m s,
    fun n hn => advance_otherModule hn s⟩
  · rw [hmodule]
    rfl
  · rw [hmodule]
  · rw [hmodule]
  · rw [hmodule]

/-- Settles O27: SLOPE fires on the part whose ring has moved, the release step follows, and the scrub stage is last. -/
theorem aRingAdvanceTestsTheSlopeThenReleases : Obligations.ARingAdvanceTestsTheSlopeThenReleases := by
  intro m s hon x r c i oldest moved steep starts leaves
  have hleaves (u : State) (hu : steppedAdvance m s = u) : leaves u := by
    refine ⟨fun h => ?_, fun h => ?_⟩
    · rw [exec_binExpiry_running hon, advance_of_scrubDue h, hu]
    · rw [exec_binExpiry_running hon, advance_of_not_scrubDue h, hu]
  refine ⟨fun h => hleaves _ ?_, fun h => hleaves _ ?_⟩
  · rw [steppedAdvance, slopeStage_of_steep h, takeReleaseStep_eq_stepped]
    rfl
  · rw [steppedAdvance, slopeStage_of_not_steep h, takeReleaseStep_eq_stepped]
    rfl

end Sys2Proof.Machine
end

section
/-! ### The burst operations as the statements spell them (R56 to R74) -/

namespace Sys2Proof.Machine

open Sys2Proof.Claim

theorem weightOn_eq_weightFor (s : State) (m : ModuleId) (g : Nat) : weightOn s m g = weightFor (moduleAt s m) g := by
  unfold weightOn weightFor profileOf
  cases (moduleAt s m).active <;> rfl

/-- On an empty forward output a frame that is added is the only one. -/
theorem send_first {s : State} (h : s.forwardOutput = []) (f : Frame) : send f s = { s with forwardOutput := [f] } := by
  rw [send, h]
  rfl

/-! ### Ends of bursts (R66, R70) -/

theorem leaveAccounts_eq_shareLeft (m : ModuleId) (b : BurstRecord) (s : State) :
    leaveAccounts m b s = setModuleAt m { moduleAt s m with accounts := shareLeft b (moduleAt s m).accounts } s := by
  unfold leaveAccounts shareLeft
  cases b.granted with
  | off => exact (setModuleAt_self m s).symm
  | code g => rfl

theorem endBurst_eq (p : PathId) (b : BurstRecord) (s : State) :
    endBurst p b s = setPathAt p { pathAt s p with burst := none }
      (setModuleAt (pathAt s p).moduleId { moduleAt s (pathAt s p).moduleId with
        accounts := shareLeft b (moduleAt s (pathAt s p).moduleId).accounts } s) := by
  rw [endBurst, leaveAccounts_eq_shareLeft, setBurst_eq, pathAt_setModuleAt]

theorem truncateBurst_eq_truncated {p : PathId} {s : State} {b : BurstRecord} (h : (pathAt s p).burst = some b) :
    truncateBurst p s = truncated p b s := by
  have ended : truncateBurst p s = count p .truncated (send (burstCloseFrame p 0) (endBurst p b s)) := by
    simp only [truncateBurst, h]
  rw [ended, endBurst_eq, send_setPathAt, send_setModuleAt, count_eq, pathAt_setPathAt_same, setPathAt_twice]
  rfl

/-! ### Samples and level steps (R60, R63) -/

/-- The whole effect of a sample in position: it leaves, its ring and the committed frames of its module follow, and the
record moves on. -/
theorem forwardSample_eq (p : PathId) (f : Frame) (position g : Nat) (b : BurstRecord) (s : State) :
    forwardSample p f position g b s =
      setPathAt p { pathAt s p with
          burst := some { b with next := position + 1, forwarded := b.forwarded + 1 },
          counters := growIn s.counterMode (pathAt s p).counters .forwarded }
        (setModuleAt (pathAt s p).moduleId { moduleAt s (pathAt s p).moduleId with
            ring := gradeEnergy (profileOf s (pathAt s p).moduleId)
              (accrueRing b.weight g (moduleAt s (pathAt s p).moduleId).ring),
            accounts := { (moduleAt s (pathAt s p).moduleId).accounts with
              committed := (moduleAt s (pathAt s p).moduleId).accounts.committed - (position + 1 - b.next) } }
          (send f s)) := by
  simp [forwardSample, accrue, profileOf]

/-- The whole effect of a level step to level `n` on a granted burst: its record, the weight in flight, the marker with
its level. -/
theorem stepBurst_eq {p : PathId} {r g : Nat} {b : BurstRecord} {s : State} {n w : Nat}
    (hn : steppedLevel g (b.backoff.getD 0) r = n)
    (hw : (if n < g then weightFor (moduleAt s (pathAt s p).moduleId) n else b.weight) = w) (spare : BitVec 9) :
    stepBurst p spare r g b s =
      setPathAt p { pathAt s p with
          burst := some { b with requested := r, granted := .code n, weight := w, backoff := some (r - n) } }
        (setModuleAt (pathAt s p).moduleId { moduleAt s (pathAt s p).moduleId with
            accounts := { (moduleAt s (pathAt s p).moduleId).accounts with
              inFlight := (moduleAt s (pathAt s p).moduleId).accounts.inFlight + w - b.weight } }
          (send (levelStepFrame p spare (BitVec.ofNat 16 n)) s)) := by
  subst hn hw
  simp only [stepBurst, reweigh, weightOn_eq_weightFor, setBurst_eq, setAccounts_eq, send_setPathAt, send_setModuleAt,
    pathAt_setModuleAt]

/-! ### The opening of a burst (R58, R79, R90, R95) -/

theorem declaredLength_eq_lengthTaken (declared : Word) : declaredLength declared = lengthTaken declared := by
  unfold declaredLength lengthTaken
  split
  · rfl
  · split <;> omega

theorem levelWord_eq_levelCode (l : Level) : levelWord l = levelCode l := by
  cases l <;> rfl

theorem joinAccounts_eq (m : ModuleId) (d : Decision) (length : Nat) (s : State) :
    joinAccounts m d length s = setModuleAt m { moduleAt s m with
      accounts := match d.granted with
        | .off => (moduleAt s m).accounts
        | .code _ => ⟨(moduleAt s m).accounts.inFlight + d.weight, (moduleAt s m).accounts.committed + length⟩ } s := by
  unfold joinAccounts
  cases d.granted with
  | off => exact (setModuleAt_self m s).symm
  | code g => rfl

theorem growIn_verdictCounter (mode : CounterMode) (v : Verdict) (k : Counters) :
    growIn mode k (verdictCounter v) = verdictCounted mode v k := by
  cases v <;> rfl

/-- What follows an admission decision (R58): the accounts, the report, the record, the counter and the marker. -/
theorem openedBy_decision (p : PathId) (spare : BitVec 9) (declared : Word) (r : Nat) (d : Decision) (s : State) :
    send (burstOpenFrame p spare declared (levelWord d.granted))
      (count p (verdictCounter d.verdict)
        (setBurst p (some (newRecord d (declaredLength declared) r s.graceCode))
          (reportVerdict p d (declaredLength declared) r
            (joinAccounts (pathAt s p).moduleId d (declaredLength declared) s)))) =
      opened p spare declared r d.verdict d.granted d.weight d.preempted s := by
  have marked (f : Frame) : { s with forwardOutput := s.forwardOutput ++ [f] } = send f s := rfl
  rw [declaredLength_eq_lengthTaken, levelWord_eq_levelCode, joinAccounts_eq]
  unfold opened reportVerdict newRecord
  rw [marked]
  cases d.granted <;> cases hr : (pathAt s p).reporting <;> simp [hr, growIn_verdictCounter]

/-- An admission leaves the part as it was, or with its victims lowered (R87, R88). -/
theorem decideAdmission_state (p : PathId) (length r : Nat) (s : State) :
    (decideAdmission p length r s).2 = s ∨
      (decideAdmission p length r s).2 = preempt (victims s (pathAt s p).moduleId) s := by
  unfold decideAdmission admitGoverning admitHeadroom
  dsimp only
  repeat' split
  · exact .inl rfl
  · exact .inl rfl
  · exact .inl rfl
  · exact .inl rfl
  · exact .inl rfl
  · exact .inr rfl
  · exact .inr rfl
  · exact .inl rfl

/-- An IDLE path is no victim of its own admission. -/
theorem decideAdmission_idlePath {p : PathId} {s : State} (h : (pathAt s p).burst = none) (length r : Nat) :
    pathAt (decideAdmission p length r s).2 p = pathAt s p := by
  rcases decideAdmission_state p length r s with e | e
  · rw [e]
  · rw [e, preempt_idlePath _ h]

/-- The part after the admission of a burst of level `r` on the IDLE path `p`, and the forwarding of its marker. -/
def openedByAdmission (p : PathId) (spare : BitVec 9) (declared : Word) (r : Nat) (s : State) : State :=
  let ds := decideAdmission p (declaredLength declared) r s
  opened p spare declared r ds.1.verdict ds.1.granted ds.1.weight ds.1.preempted ds.2

theorem openBurst_marker {p : PathId} {s : State} (h : (pathAt s p).burst = none) (spare : BitVec 9) (declared : Word)
    (r : Nat) :
    send (burstOpenFrame p spare declared (levelWord (openBurst p (declaredLength declared) r s).1))
      (openBurst p (declaredLength declared) r s).2 = openedByAdmission p spare declared r s := by
  have hpath := decideAdmission_idlePath h (declaredLength declared) r
  have hgrace : (decideAdmission p (declaredLength declared) r s).2.graceCode = s.graceCode := by
    rw [decideAdmission_writes p (declaredLength declared) r s]
  have hopened := openedBy_decision p spare declared r (decideAdmission p (declaredLength declared) r s).1
    (decideAdmission p (declaredLength declared) r s).2
  rw [hpath, hgrace] at hopened
  exact hopened

theorem truncateBurst_leavesIdle (p : PathId) (s : State) : (pathAt (truncateBurst p s) p).burst = none := by
  cases h : (pathAt s p).burst with
  | none => rw [truncateBurst_idle h, h]
  | some b => rw [truncateBurst_eq_truncated h, truncated, pathAt_setPathAt_same]

/-- A marker that asks for OFF only truncates (R57). -/
theorem takeBurstOpen_off {level : Word} (h : 127 < level.toNat) (p : PathId) (spare : BitVec 9) (declared : Word)
    (s : State) :
    takeBurstOpen p spare declared level s = send (burstOpenFrame p spare declared level) (truncateBurst p s) := by
  have hoff : openLevel level = .off := if_neg (Nat.not_le.mpr h)
  simp only [takeBurstOpen, hoff]

/-- A marker that asks for a level truncates, then opens a burst on the path, IDLE by now (R58, R59). -/
theorem takeBurstOpen_code {level : Word} (h : level.toNat ≤ 127) (p : PathId) (spare : BitVec 9) (declared : Word)
    (s : State) :
    takeBurstOpen p spare declared level s = openedByAdmission p spare declared level.toNat (truncateBurst p s) := by
  have hcode : openLevel level = .code level.toNat := if_pos h
  rw [← openBurst_marker (truncateBurst_leavesIdle p s)]
  simp only [takeBurstOpen, hcode]

end Sys2Proof.Machine
end

section
/-! ### Path counters, sample frames and markers: what each command does (R57 to R74) -/

namespace Sys2Proof.Machine

open Sys2Proof.Claim

/-! ### Path counters (R74) -/

/-- Settles O13: at the top the mode decides; below it, adding 1 does not overflow. -/
theorem aCounterSaturatesOrWraps : Obligations.ACounterSaturatesOrWraps := by
  intro mode c
  have top : c = BitVec.allOnes 32 ↔ c.toNat = 4294967295 := BitVec.toNat_inj.symm
  unfold growCounter
  refine ⟨fun h => ?_, fun h => ?_⟩
  · simp only [if_pos (top.mpr h), and_self]
  · rw [if_neg fun e => absurd (top.mp e) (Nat.ne_of_lt h), BitVec.toNat_add]
    exact Nat.mod_eq_of_lt (Nat.succ_lt_succ h)

theorem dropFrame_eq (p : PathId) (s : State) :
    dropFrame p s = setPathAt p { pathAt s p with counters :=
      { (pathAt s p).counters with dropped := growCounter s.counterMode (pathAt s p).counters.dropped } } s := rfl

/-! ### Sample frames (R40, R41, R47, R60 to R62) -/

theorem takeSample_granted {p : PathId} {s : State} {b : BurstRecord} {g : Nat} (hb : (pathAt s p).burst = some b)
    (hg : b.granted = .code g) (f : Frame) (position : Nat) :
    takeSample p f position s =
      if b.next ≤ position ∧ position < b.declared then forwardSample p f position g b s else dropFrame p s := by
  simp only [takeSample, hb, hg]

theorem takeSample_blanked {p : PathId} {s : State} {b : BurstRecord} (hb : (pathAt s p).burst = some b)
    (hg : b.granted = .off) (f : Frame) (position : Nat) : takeSample p f position s = dropFrame p s := by
  simp only [takeSample, hb, hg]

theorem takeSample_idle {p : PathId} {s : State} (hb : (pathAt s p).burst = none) (f : Frame) (position : Nat) :
    takeSample p f position s = dropFrame p s := by
  simp only [takeSample, hb]

theorem energyTaken_eq (b : Bin) (w : Nat) : energyTaken b w = min w (134217727 - b.energy) := rfl

/-- A bin takes the frame while its count is below the limit (R41). -/
theorem framesTaken_eq (b : Bin) : framesTaken b = if b.frames < 16777215 then 1 else 0 := by
  unfold framesTaken Config.maxBinFrames
  split <;> omega

theorem raisePeak_eq (peak : Option Nat) (g : Nat) :
    raisePeak peak g = some (match peak with
      | some h => max h g
      | none => g) := by
  cases peak <;> rfl

/-- Settles O8: the frame leaves, its weight enters the current bin as far as the bin takes it, and the module's
committed frames fall by the positions that the record passes. -/
theorem aSampleInPositionIsForwardedAndAccrued : Obligations.ASampleInPositionIsForwardedAndAccrued := by
  intro p spare position samples s b g ⟨hon, hempty, hnowait⟩ hb hg hlow hhigh c x bin energy frames peak
  have accrued : accrueRing b.weight g x.ring = { x.ring with
      bins := x.ring.bins.set x.ring.current.val ⟨bin.energy + energy, bin.frames + frames, some peak⟩
        x.ring.current.isLt,
      windowEnergy := x.ring.windowEnergy + energy, windowFrames := x.ring.windowFrames + frames } := by
    simp only [accrueRing, energyTaken_eq, framesTaken_eq, raisePeak_eq]
    rfl
  rw [exec_sample_taken hon hempty hnowait, takeSample_granted hb hg, if_pos ⟨hlow, hhigh⟩, forwardSample_eq,
    gradeEnergy_eq_gradeFor (r := accrueRing _ _ _) rfl, accrued, send_first hempty]
  rfl

/-- Settles O9: in each of the three cases the frame is dropped. -/
theorem aSampleNotInPositionIsDropped : Obligations.ASampleNotInPositionIsDropped := by
  intro p spare position samples s ⟨hon, hempty, hnowait⟩ c hcases
  have dropped : takeSample p (sampleFrame p spare position samples) position.toNat s = dropFrame p s := by
    rcases hcases with ⟨b, g, hb, hg, hout⟩ | ⟨b, hb, hg⟩ | hb
    · rw [takeSample_granted hb hg, if_neg (by omega)]
    · exact takeSample_blanked hb hg ..
    · exact takeSample_idle hb ..
  rw [exec_sample_taken hon hempty hnowait, dropped, dropFrame_eq]

/-! ### Closes and the grace timer (R66, R69, R70) -/

theorem takeBurstClose_idle {p : PathId} {s : State} (hb : (pathAt s p).burst = none) (spare : BitVec 9) :
    takeBurstClose p spare s = dropFrame p s := by
  simp only [takeBurstClose, hb]

theorem takeBurstClose_burst {p : PathId} {s : State} {b : BurstRecord} (hb : (pathAt s p).burst = some b)
    (spare : BitVec 9) : takeBurstClose p spare s = send (burstCloseFrame p spare) (endBurst p b s) := by
  simp only [takeBurstClose, hb]

theorem exec_graceExpiry_running {s : State} (h : s.deviceState ≠ .offline) (p : PathId) :
    exec (.graceExpiry p) s = .next (truncateBurst p s) := if_neg h

/-- Settles O10: the grace expiry is the truncation; the close ends the burst and leaves as it came. -/
theorem aBurstEndsByItsCloseOrItsGraceExpiry : Obligations.ABurstEndsByItsCloseOrItsGraceExpiry := by
  intro p s b hon hb
  refine ⟨?_, fun spare ⟨_, hempty, hnowait⟩ => ?_⟩
  · rw [exec_graceExpiry_running hon, truncateBurst_eq_truncated hb]
  · rw [exec_burstClose_taken hon hempty hnowait, takeBurstClose_burst hb, endBurst_eq, send_setPathAt,
      send_setModuleAt, send_first hempty]

/-! ### Level steps (R63, R64) -/

theorem takeLevelStep_idle {p : PathId} {s : State} (hb : (pathAt s p).burst = none) (spare : BitVec 9)
    (level : Word) : takeLevelStep p spare level s = dropFrame p s := by
  simp only [takeLevelStep, hb]

theorem takeLevelStep_blanked {p : PathId} {s : State} {b : BurstRecord} (hb : (pathAt s p).burst = some b)
    (hg : b.granted = .off) (spare : BitVec 9) (level : Word) :
    takeLevelStep p spare level s = send (levelStepFrame p spare 0x00FF) s := by
  simp only [takeLevelStep, hb, hg]
  rfl

theorem takeLevelStep_granted {p : PathId} {s : State} {b : BurstRecord} {g : Nat}
    (hb : (pathAt s p).burst = some b) (hg : b.granted = .code g) (spare : BitVec 9) (level : Word) :
    takeLevelStep p spare level s = stepBurst p spare (stepLevel level) g b s := by
  simp only [takeLevelStep, hb, hg]

/-- Settles O11: on an IDLE path both markers are dropped; a blanked burst passes the step on with OFF. -/
theorem aMarkerOffAGrantedBurstChangesNoRecord : Obligations.AMarkerOffAGrantedBurstChangesNoRecord := by
  intro p spare level s ⟨hon, hempty, hnowait⟩ c dropped
  rw [exec_burstClose_taken hon hempty hnowait, exec_levelStep_taken hon hempty hnowait]
  refine ⟨fun hb => ?_, fun b hb hg => ?_⟩
  · rw [takeBurstClose_idle hb, takeLevelStep_idle hb, dropFrame_eq]
    exact ⟨rfl, rfl⟩
  · rw [takeLevelStep_blanked hb hg, send_first hempty]

/-- Settles O12: the step is taken on a granted burst, whose applied backoff its record holds. -/
theorem aLevelStepMovesAGrantedBurst : Obligations.ALevelStepMovesAGrantedBurst := by
  intro p spare level s b g a ⟨hon, hempty, hnowait⟩ hb hg ha c x r n w
  have hn : steppedLevel g (b.backoff.getD 0) (stepLevel level) = n := by
    rw [ha]
    rfl
  have hw : (if n < g then weightFor (moduleAt s (pathAt s p).moduleId) n else b.weight) = w := rfl
  rw [exec_levelStep_taken hon hempty hnowait, takeLevelStep_granted hb hg, stepBurst_eq hn hw, send_first hempty]
  rfl

/-! ### Opens (R57, R59) -/

theorem truncated_output {p : PathId} {b : BurstRecord} {s : State} (h : s.forwardOutput = []) :
    (truncated p b s).forwardOutput = [burstCloseFrame p 0] := by
  change s.forwardOutput ++ [burstCloseFrame p 0] = _
  rw [h]
  rfl

/-- Settles O14: only the truncation of a burst in progress comes before the marker. -/
theorem aBurstOpenAskingOffOpensNothing : Obligations.ABurstOpenAskingOffOpensNothing := by
  intro p spare declared level s ⟨hon, hempty, hnowait⟩ hoff
  rw [exec_burstOpen_taken hon hempty hnowait, takeBurstOpen_off hoff]
  refine ⟨fun hb => ?_, fun b hb => ?_⟩
  · rw [truncateBurst_idle hb, send_first hempty]
  · rw [truncateBurst_eq_truncated hb, send, truncated_output hempty]
    rfl

/-- The part with one more frame at the front of its forward output. -/
def sentAhead (f : Frame) (s : State) : State := { s with forwardOutput := f :: s.forwardOutput }

theorem sentAhead_of_output {f : Frame} {u : State} (h : u.forwardOutput = [f]) :
    sentAhead f { u with forwardOutput := [] } = u := by
  change { u with forwardOutput := [f] } = u
  rw [← h]

theorem lowerBurst_sentAhead (f : Frame) (q : PathId) (n : Nat) (s : State) :
    lowerBurst q n (sentAhead f s) = sentAhead f (lowerBurst q n s) := by
  cases hb : (pathAt s q).burst with
  | none => rw [lowerBurst_idle hb, lowerBurst_idle (s := sentAhead f s) hb]
  | some b => rw [lowerBurst_burst hb, lowerBurst_burst (s := sentAhead f s) hb]; rfl

theorem preempt_sentAhead (f : Frame) (qs : List PathId) (s : State) :
    preempt qs (sentAhead f s) = sentAhead f (preempt qs s) := by
  induction qs generalizing s with
  | nil => rfl
  | cons q qs ih => exact (congrArg (preempt qs) (lowerBurst_sentAhead f q 0 s)).trans (ih _)

@[simp] theorem pathAt_sentAhead (f : Frame) (s : State) (q : PathId) : pathAt (sentAhead f s) q = pathAt s q := rfl
@[simp] theorem moduleAt_sentAhead (f : Frame) (s : State) (m : ModuleId) :
    moduleAt (sentAhead f s) m = moduleAt s m := rfl
@[simp] theorem victims_sentAhead (f : Frame) (s : State) (m : ModuleId) :
    victims (sentAhead f s) m = victims s m := rfl

theorem admitHeadroom_sentAhead (f : Frame) (m : ModuleId) (cls : TrafficClass) (prof : Profile) (r : Nat)
    (s : State) :
    admitHeadroom m cls prof r (sentAhead f s) =
      ((admitHeadroom m cls prof r s).1, sentAhead f (admitHeadroom m cls prof r s).2) := by
  unfold admitHeadroom
  simp only [moduleAt_sentAhead, victims_sentAhead, preempt_sentAhead]
  split
  · rfl
  · split
    · rfl
    · split <;> rfl

theorem admitGoverning_sentAhead (f : Frame) (m : ModuleId) (cls : TrafficClass) (prof : Profile) (length r : Nat)
    (s : State) :
    admitGoverning m cls prof length r (sentAhead f s) =
      ((admitGoverning m cls prof length r s).1, sentAhead f (admitGoverning m cls prof length r s).2) := by
  unfold admitGoverning
  simp only [moduleAt_sentAhead, admitHeadroom_sentAhead]
  split
  · rfl
  · split <;> rfl

/-- An admission reads nothing of the forward output; its pre-emptions add to it. -/
theorem decideAdmission_sentAhead (f : Frame) (p : PathId) (length r : Nat) (s : State) :
    decideAdmission p length r (sentAhead f s) =
      ((decideAdmission p length r s).1, sentAhead f (decideAdmission p length r s).2) := by
  unfold decideAdmission
  have hdevice : (sentAhead f s).deviceState = s.deviceState := rfl
  have hprofile (m : ModuleId) : profileOf (sentAhead f s) m = profileOf s m := rfl
  simp only [pathAt_sentAhead, admitGoverning_sentAhead, hdevice, hprofile]
  split
  · rfl
  · split <;> rfl

theorem opened_sentAhead (f : Frame) (p : PathId) (spare : BitVec 9) (declared : Word) (r : Nat) (v : Verdict)
    (g : Level) (w n : Nat) (s : State) :
    opened p spare declared r v g w n (sentAhead f s) = sentAhead f (opened p spare declared r v g w n s) := by
  have reported (report : Report) (u : State) : offer report (sentAhead f u) = sentAhead f (offer report u) :=
    offer_commutes report (sentAhead f) (fun _ => ⟨rfl, rfl, rfl, rfl, rfl, rfl, rfl⟩) (fun _ _ _ _ _ _ _ => rfl) u
  unfold opened
  dsimp only
  rw [pathAt_sentAhead]
  split
  · rw [← reported]
    rfl
  · rfl

theorem openedByAdmission_sentAhead (f : Frame) (p : PathId) (spare : BitVec 9) (declared : Word) (r : Nat)
    (s : State) :
    openedByAdmission p spare declared r (sentAhead f s) = sentAhead f (openedByAdmission p spare declared r s) := by
  unfold openedByAdmission
  rw [decideAdmission_sentAhead, opened_sentAhead]

/-- Settles O15: what the truncation leaves is an open port with the inserted close ahead; the opening does not look at
the frames ahead. -/
theorem aBurstOpenInABurstTruncatesItFirst : Obligations.ABurstOpenInABurstTruncatesItFirst := by
  intro p spare declared level s b ⟨hon, hempty, hnowait⟩ hcode hb
  have hahead : truncateBurst p s = sentAhead (burstCloseFrame p 0) { truncated p b s with forwardOutput := [] } := by
    rw [truncateBurst_eq_truncated hb, sentAhead_of_output (truncated_output hempty)]
  have hport : PortOpen { truncated p b s with forwardOutput := [] } := ⟨hon, rfl, hnowait⟩
  generalize { truncated p b s with forwardOutput := [] } = u at hahead hport
  obtain ⟨hon', hempty', hnowait'⟩ := hport
  have hidle := truncateBurst_leavesIdle p s
  rw [hahead, pathAt_sentAhead] at hidle
  refine ⟨openedByAdmission p spare declared level.toNat u, ?_, ?_⟩
  · rw [exec_burstOpen_taken hon' hempty' hnowait', takeBurstOpen_code hcode, truncateBurst_idle hidle]
  · rw [exec_burstOpen_taken hon hempty hnowait, takeBurstOpen_code hcode, hahead, openedByAdmission_sentAhead]
    rfl

end Sys2Proof.Machine
end

section
/-! ### SET PATH (R75) -/

namespace Sys2Proof.Machine

open Sys2Proof.Claim

/-! ### What the parameter words name -/

theorem wordPath_of_eq {w : Word} {p : PathId} (h : w.toNat = p.val) : wordPath w = some p := by
  unfold wordPath
  rw [dif_pos (h ▸ p.isLt)]
  exact congrArg some (Fin.ext h)

theorem wordPath_of_gt {w : Word} (h : 7 < w.toNat) : wordPath w = none := by
  unfold wordPath
  rw [dif_neg (Nat.not_lt.mpr h)]

/-- A flag word is 0 or 1, any other names no flag. -/
theorem wordBool_eq (w : Word) : wordBool w = if w.toNat ≤ 1 then some (decide (w.toNat = 1)) else none := by
  unfold wordBool
  by_cases h0 : w = 0
  · subst h0; rfl
  · by_cases h1 : w = 1
    · subst h1; rfl
    · rw [if_neg h0, if_neg h1, if_neg (by bv_omega)]

/-- A class word is 0, 1 or 2, any other names no class. -/
theorem wordClass_eq (w : Word) : wordClass w = if w.toNat ≤ 2 then
    some (if w.toNat = 0 then .voice else if w.toNat = 1 then .signalling else .data) else none := by
  unfold wordClass
  by_cases h0 : w = 0
  · subst h0; rfl
  · by_cases h1 : w = 1
    · subst h1; rfl
    · by_cases h2 : w = 2
      · subst h2; rfl
      · rw [if_neg h0, if_neg h1, if_neg h2, if_neg (by bv_omega)]

/-! ### The tests in order -/

theorem doSetPath_outOfRange {w en md cl rep : Word} {s : State}
    (h : 7 < w.toNat ∨ 3 < md.toNat ∨ 2 < cl.toNat ∨ 1 < en.toNat ∨ 1 < rep.toNat) :
    doSetPath [w, en, md, cl, rep] s = refuse .setPath .range s := by
  unfold doSetPath
  dsimp only
  split
  · next hpath henabled hmodule hclass hreporting =>
    rw [wordBool_eq] at henabled hreporting
    rw [wordClass_eq] at hclass
    rcases h with hout | hout | hout | hout | hout
    · exact nomatch (wordPath_of_gt hout).symm.trans hpath
    · exact nomatch (wordModule_of_gt hout).symm.trans hmodule
    · exact nomatch (if_neg (Nat.not_le.mpr hout)).symm.trans hclass
    · exact nomatch (if_neg (Nat.not_le.mpr hout)).symm.trans henabled
    · exact nomatch (if_neg (Nat.not_le.mpr hout)).symm.trans hreporting
  · rfl

/-- In range, a path in a burst and then an enabled path on an unprofiled module are tested for, else the four fields
are written. -/
theorem doSetPath_inRange {w en md cl rep : Word} {p : PathId} {m : ModuleId} (hpath : w.toNat = p.val)
    (hmodule : md.toNat = m.val) (hclass : cl.toNat ≤ 2) (henabled : en.toNat ≤ 1) (hreporting : rep.toNat ≤ 1)
    (s : State) : doSetPath [w, en, md, cl, rep] s =
    if (pathAt s p).burst.isSome then refuse .setPath .busy s
    else if pathUnprofiled (decide (en.toNat = 1)) m s then refuse .setPath .state s
    else done .setPath [w] (setPathAt p { pathAt s p with
      enabled := decide (en.toNat = 1), moduleId := m, reporting := decide (rep.toNat = 1),
      trafficClass := if cl.toNat = 0 then .voice else if cl.toNat = 1 then .signalling else .data } s) := by
  simp only [doSetPath, wordPath_of_eq hpath, wordModule_of_eq hmodule, wordBool_eq, wordClass_eq, if_pos hclass,
    if_pos henabled, if_pos hreporting]

theorem pathUnprofiled_iff (en : Word) (m : ModuleId) (s : State) : pathUnprofiled (decide (en.toNat = 1)) m s = true ↔
    s.deviceState = .governing ∧ en.toNat = 1 ∧ (moduleAt s m).active = none := by
  simp only [pathUnprofiled, Bool.and_eq_true, beq_iff_eq, decide_eq_true_eq, Option.isNone_iff_eq_none, and_assoc]

/-- Settles O50: the command is executed, and its tests are made in R75's order. -/
theorem setPathWritesTheFourFields : Obligations.SetPathWritesTheFourFields := by
  intro w en md cl rep s hexecuting run
  obtain ⟨⟨⟨hon, hempty, hnowait⟩, hroom⟩, hworks, hidle⟩ := hexecuting
  have hrun : run = .next (doSetPath [w, en, md, cl, rep] s) :=
    exec_setPath_executed hon hempty hnowait hroom hworks hidle ..
  rw [hrun]
  refine ⟨fun hout => ?_, fun p m hpath hmodule hclass henabled hreporting => ?_⟩
  · rw [doSetPath_outOfRange hout]
    rfl
  · rw [doSetPath_inRange hpath hmodule hclass henabled hreporting]
    refine ⟨fun hburst => ?_, fun hburst => ?_⟩
    · rw [if_pos hburst]
      rfl
    · intro refused
      have htest : pathUnprofiled (decide (en.toNat = 1)) m s = true ↔ refused := pathUnprofiled_iff en m s
      rw [if_neg (by simp [hburst])]
      refine ⟨fun hrefused => ?_, fun haccepted => ?_⟩
      · rw [if_pos (htest.mpr hrefused)]
        rfl
      · rw [if_neg fun h => haccepted (htest.mp h)]
        rfl

end Sys2Proof.Machine
end

section
/-! ### The burst records and the admission accounts: what one burst's move leaves exact (R56, R91) -/

namespace Sys2Proof.Machine

open Sys2Proof.Claim

/-! ### The laws -/

/-- The laws of `BurstsLawful` and `AccountsExact`. -/
structure Accounted (s : State) : Prop where
  bursts : BurstsLawful s
  accounts : AccountsExact s

/-- The limits of a record, whatever was granted (R56). -/
structure RecordWithin (b : BurstRecord) : Prop where
  declared_pos : 1 ≤ b.declared
  declared_le : b.declared ≤ 64
  next_le : b.next ≤ b.declared
  forwarded_le : b.forwarded ≤ b.next
  requested_le : b.requested ≤ 127
  weight_le : b.weight ≤ 65535

theorem recordWithin_iff (b : BurstRecord) : RecordWithin b ↔
    1 ≤ b.declared ∧ b.declared ≤ 64 ∧ b.next ≤ b.declared ∧ b.forwarded ≤ b.next ∧ b.requested ≤ 127 ∧
      b.weight ≤ 65535 :=
  ⟨fun ⟨h1, h2, h3, h4, h5, h6⟩ => ⟨h1, h2, h3, h4, h5, h6⟩, fun ⟨h1, h2, h3, h4, h5, h6⟩ => ⟨h1, h2, h3, h4, h5, h6⟩⟩

theorem burstLawful_granted {b : BurstRecord} {g : Nat} (h : b.granted = .code g) :
    burstLawful b = true ↔ RecordWithin b ∧ g ≤ b.requested ∧ b.backoff = some (b.requested - g) := by
  simp only [burstLawful, h, Bool.and_eq_true, decide_eq_true_eq, beq_iff_eq, recordWithin_iff]

theorem burstLawful_blanked {b : BurstRecord} (h : b.granted = .off) :
    burstLawful b = true ↔ RecordWithin b ∧ b.weight = 0 ∧ b.backoff = none ∧ b.next = 0 := by
  simp only [burstLawful, h, Bool.and_eq_true, decide_eq_true_eq, beq_iff_eq, recordWithin_iff, and_assoc]

theorem Accounted.burst_lawful {s : State} (h : Accounted s) {p : PathId} {b : BurstRecord}
    (hb : (pathAt s p).burst = some b) : burstLawful b = true := by
  have hp := h.bursts p
  rw [hb] at hp
  exact hp

/-- Every weight is a profile word (R8). -/
theorem weight_le (p : Profile) (g : Nat) : weight p g ≤ 65535 :=
  Nat.lt_succ_iff.mp (profileWord p (282 + g)).isLt

theorem weightFor_le (x : ModuleState) (g : Nat) : weightFor x g ≤ 65535 := by
  unfold weightFor
  split
  · exact weight_le ..
  · exact Nat.zero_le _

/-! ### What a path holds of its module's accounts -/

theorem weightHeld_otherModule {c : PathContext} {m : ModuleId} (h : c.moduleId ≠ m) : weightHeld c m = 0 := if_neg h
theorem framesToCome_otherModule {c : PathContext} {m : ModuleId} (h : c.moduleId ≠ m) : framesToCome c m = 0 :=
  if_neg h

theorem weightHeld_idle {c : PathContext} (h : c.burst = none) (m : ModuleId) : weightHeld c m = 0 := by
  simp [weightHeld, h]
theorem framesToCome_idle {c : PathContext} (h : c.burst = none) (m : ModuleId) : framesToCome c m = 0 := by
  simp [framesToCome, h]

theorem weightHeld_burst {c : PathContext} {b : BurstRecord} (h : c.burst = some b) :
    weightHeld c c.moduleId = b.weight := by
  simp [weightHeld, h]
theorem framesToCome_granted {c : PathContext} {b : BurstRecord} {g : Nat} (h : c.burst = some b)
    (hg : b.granted = .code g) : framesToCome c c.moduleId = b.declared - b.next := by
  simp [framesToCome, h, hg]
theorem framesToCome_blanked {c : PathContext} {b : BurstRecord} (h : c.burst = some b) (hg : b.granted = .off)
    (m : ModuleId) : framesToCome c m = 0 := by
  simp [framesToCome, h, hg]

/-! ### Sums over the paths -/

theorem sum_paths_split (f : PathId → Nat) (p : PathId) :
    f p + ((allPaths.erase p).map f).sum = (allPaths.map f).sum := List.sum_map_erase f (mem_allPaths p)

/-- Where only path `p` changes what it holds, the sum changes by that. -/
theorem sum_paths_moves {f g : PathId → Nat} {p : PathId} (h : ∀ q, q ≠ p → g q = f q) :
    (allPaths.map g).sum + f p = (allPaths.map f).sum + g p := by
  have hrest : (allPaths.erase p).map g = (allPaths.erase p).map f := by
    refine List.map_congr_left fun q hq => h q ?_
    exact ((List.Nodup.mem_erase_iff (by decide)).mp hq).1
  have hf := sum_paths_split f p
  have hg := sum_paths_split g p
  rw [hrest] at hg
  omega

theorem le_sum_paths (f : PathId → Nat) (p : PathId) : f p ≤ (allPaths.map f).sum :=
  sum_paths_split f p ▸ Nat.le_add_right ..

/-- An account is never below what one path holds of it. -/
theorem Accounted.weightHeld_le {s : State} (h : Accounted s) (p : PathId) (m : ModuleId) :
    weightHeld (pathAt s p) m ≤ (moduleAt s m).accounts.inFlight :=
  (h.accounts m).1 ▸ le_sum_paths (fun q => weightHeld (pathAt s q) m) p
theorem Accounted.framesToCome_le {s : State} (h : Accounted s) (p : PathId) (m : ModuleId) :
    framesToCome (pathAt s p) m ≤ (moduleAt s m).accounts.committed :=
  (h.accounts m).2 ▸ le_sum_paths (fun q => framesToCome (pathAt s q) m) p

/-! ### One path's burst moves -/

/-- From `s` to `t` only path `p`'s context changes, on the same module and to a lawful record, and of all accounts only
those of that module, by what the path holds more or less. -/
structure MovesBurst (p : PathId) (s t : State) : Prop where
  otherPaths : ∀ q, q ≠ p → pathAt t q = pathAt s q
  moduleId : (pathAt t p).moduleId = (pathAt s p).moduleId
  lawful : (pathAt t p).burst.all burstLawful = true
  otherModules : ∀ n, n ≠ (pathAt s p).moduleId → (moduleAt t n).accounts = (moduleAt s n).accounts
  inFlight : (moduleAt t (pathAt s p).moduleId).accounts.inFlight + weightHeld (pathAt s p) (pathAt s p).moduleId =
    (moduleAt s (pathAt s p).moduleId).accounts.inFlight + weightHeld (pathAt t p) (pathAt s p).moduleId
  committed : (moduleAt t (pathAt s p).moduleId).accounts.committed + framesToCome (pathAt s p) (pathAt s p).moduleId =
    (moduleAt s (pathAt s p).moduleId).accounts.committed + framesToCome (pathAt t p) (pathAt s p).moduleId

theorem MovesBurst.accounted {p : PathId} {s t : State} (k : MovesBurst p s t) (h : Accounted s) : Accounted t where
  bursts q := by
    by_cases hq : q = p
    · exact hq ▸ k.lawful
    · rw [k.otherPaths q hq]
      exact h.bursts q
  accounts m := by
    obtain ⟨hweights, hframes⟩ := h.accounts m
    have movedWeights := sum_paths_moves (f := fun q => weightHeld (pathAt s q) m)
      (g := fun q => weightHeld (pathAt t q) m) fun q hq => by rw [k.otherPaths q hq]
    have movedFrames := sum_paths_moves (f := fun q => framesToCome (pathAt s q) m)
      (g := fun q => framesToCome (pathAt t q) m) fun q hq => by rw [k.otherPaths q hq]
    by_cases hm : m = (pathAt s p).moduleId
    · have inFlight := k.inFlight
      have committed := k.committed
      rw [← hm] at inFlight committed
      constructor <;> omega
    · have hs : (pathAt s p).moduleId ≠ m := Ne.symm hm
      have ht : (pathAt t p).moduleId ≠ m := k.moduleId ▸ hs
      rw [weightHeld_otherModule hs, weightHeld_otherModule ht] at movedWeights
      rw [framesToCome_otherModule hs, framesToCome_otherModule ht] at movedFrames
      rw [k.otherModules m hm]
      constructor <;> omega

/-- The moves as the state operations write them: the path's context over its module's state. -/
theorem movesBurst_of_set {p : PathId} {s u : State} {c : PathContext} {x : ModuleState}
    (hpaths : u.paths = s.paths) (hmodules : u.modules = s.modules) (hbound : c.moduleId = (pathAt s p).moduleId)
    (hlawful : c.burst.all burstLawful = true)
    (inFlight : x.accounts.inFlight + weightHeld (pathAt s p) (pathAt s p).moduleId =
      (moduleAt s (pathAt s p).moduleId).accounts.inFlight + weightHeld c (pathAt s p).moduleId)
    (committed : x.accounts.committed + framesToCome (pathAt s p) (pathAt s p).moduleId =
      (moduleAt s (pathAt s p).moduleId).accounts.committed + framesToCome c (pathAt s p).moduleId) :
    MovesBurst p s (setPathAt p c (setModuleAt (pathAt s p).moduleId x u)) := by
  have hpath (q : PathId) : pathAt u q = pathAt s q := by simp only [pathAt, hpaths]
  have hmod (n : ModuleId) : moduleAt u n = moduleAt s n := by simp only [moduleAt, hmodules]
  refine ⟨fun q hq => ?_, ?_, ?_, fun n hn => ?_, ?_, ?_⟩
  · rw [pathAt_setPathAt_other hq, pathAt_setModuleAt, hpath]
  · rw [pathAt_setPathAt_same, hbound]
  · rw [pathAt_setPathAt_same]
    exact hlawful
  · rw [moduleAt_setPathAt, moduleAt_setModuleAt_other hn, hmod]
  · rw [moduleAt_setPathAt, moduleAt_setModuleAt_same, pathAt_setPathAt_same]
    exact inFlight
  · rw [moduleAt_setPathAt, moduleAt_setModuleAt_same, pathAt_setPathAt_same]
    exact committed

end Sys2Proof.Machine
end

section
/-! ### The burst records and the admission accounts: the Burst Unit's and the Admission Unit's acts (R56 to R92) -/

namespace Sys2Proof.Machine

open Sys2Proof.Claim

/-! ### Ends of bursts (R66, R70) -/

/-- A burst that ends takes out of the accounts what its path held of them. -/
theorem Accounted.movesBurst_ended {s : State} (h : Accounted s) {p : PathId} {b : BurstRecord}
    (hb : (pathAt s p).burst = some b) {c : PathContext} (hbound : c.moduleId = (pathAt s p).moduleId)
    (hidle : c.burst = none) (f : Frame) :
    MovesBurst p s (setPathAt p c (setModuleAt (pathAt s p).moduleId { moduleAt s (pathAt s p).moduleId with
      accounts := shareLeft b (moduleAt s (pathAt s p).moduleId).accounts } (send f s))) := by
  have hlawful := h.burst_lawful hb
  have hweight := h.weightHeld_le p (pathAt s p).moduleId
  have hframes := h.framesToCome_le p (pathAt s p).moduleId
  refine movesBurst_of_set rfl rfl hbound (by rw [hidle]; rfl) ?_ ?_
  · rw [weightHeld_burst hb] at hweight ⊢
    rw [weightHeld_idle hidle]
    dsimp only [shareLeft]
    split
    · next hg =>
      obtain ⟨-, hzero, -⟩ := (burstLawful_blanked hg).mp hlawful
      rw [hzero]
    · exact Nat.sub_add_cancel hweight
  · rw [framesToCome_idle hidle]
    dsimp only [shareLeft]
    split
    · next hg => rw [framesToCome_blanked hb hg]
    · next hg =>
      rw [framesToCome_granted hb hg] at hframes ⊢
      exact Nat.sub_add_cancel hframes

/-- From an accounted part the accounts stay exact and the records lawful. -/
structure KeepsAccounts (s t : State) : Prop where
  accounted : Accounted s → Accounted t

theorem KeepsAccounts.refl (s : State) : KeepsAccounts s s := ⟨id⟩

theorem KeepsAccounts.trans {s t u : State} (h1 : KeepsAccounts s t) (h2 : KeepsAccounts t u) : KeepsAccounts s u :=
  ⟨h2.accounted ∘ h1.accounted⟩

theorem keepsAccounts_of_moves (p : PathId) {s t : State} (h : Accounted s → MovesBurst p s t) : KeepsAccounts s t :=
  ⟨fun hs => (h hs).accounted hs⟩

theorem foldl_keepsAccounts {α : Type} {f : State → α → State} (h : ∀ s a, KeepsAccounts s (f s a)) (l : List α)
    (s : State) : KeepsAccounts s (l.foldl f s) := by
  induction l generalizing s with
  | nil => exact .refl s
  | cons a l ih => exact (h s a).trans (ih (f s a))

theorem ite_keepsAccounts {s t u : State} {b : Prop} [Decidable b] (ht : b → KeepsAccounts s t)
    (hu : ¬ b → KeepsAccounts s u) : KeepsAccounts s (if b then t else u) := by
  split
  · next h => exact ht h
  · next h => exact hu h

/-! ### Updates that leave bursts and accounts alone -/

/-- The laws read each module's accounts, and of each path its burst and what it holds. -/
theorem keepsAccounts_of_same {s t : State} (ha : ∀ m, (moduleAt t m).accounts = (moduleAt s m).accounts)
    (hl : ∀ p, (pathAt s p).burst.all burstLawful = true → (pathAt t p).burst.all burstLawful = true)
    (hw : ∀ p m, weightHeld (pathAt t p) m = weightHeld (pathAt s p) m)
    (hf : ∀ p m, framesToCome (pathAt t p) m = framesToCome (pathAt s p) m) : KeepsAccounts s t := by
  refine ⟨fun ⟨hbursts, haccounts⟩ => ⟨fun p => hl p (hbursts p), fun m => ?_⟩⟩
  simp only [ha, hw, hf]
  exact haccounts m

theorem keepsAccounts_of_fields {s t : State} (hm : t.modules = s.modules) (hp : t.paths = s.paths) :
    KeepsAccounts s t := by
  have hpath (p : PathId) : pathAt t p = pathAt s p := by simp only [pathAt, hp]
  refine keepsAccounts_of_same (fun m => by simp only [moduleAt, hm]) (fun p => ?_) (fun p m => ?_) fun p m => ?_
  · rw [hpath]
    exact id
  · rw [hpath]
  · rw [hpath]

theorem setModuleAt_keepsAccounts {m : ModuleId} {x : ModuleState} {s : State}
    (h : x.accounts = (moduleAt s m).accounts) : KeepsAccounts s (setModuleAt m x s) := by
  refine keepsAccounts_of_same (fun n => ?_) (fun _ => id) (fun _ _ => rfl) fun _ _ => rfl
  rw [moduleAt_setModuleAt]
  split
  · next e => rw [e, h]
  · rfl

theorem setContext_keepsAccounts (m : ModuleId) (x : ModuleContext) (s : State) :
    KeepsAccounts s (setContext m x s) := setModuleAt_keepsAccounts rfl

theorem setRing_keepsAccounts (m : ModuleId) (x : Ring) (s : State) : KeepsAccounts s (setRing m x s) :=
  setModuleAt_keepsAccounts rfl

theorem setThrottle_keepsAccounts (m : ModuleId) (x : ThrottleContext) (s : State) :
    KeepsAccounts s (setThrottle m x s) := setModuleAt_keepsAccounts rfl

theorem setScrub_keepsAccounts (m : ModuleId) (x : Bool) (s : State) : KeepsAccounts s (setScrub m x s) :=
  setModuleAt_keepsAccounts rfl

/-- A path's context is written with a lawful burst that holds what the one before held. -/
theorem setPathAt_keepsAccounts {p : PathId} {x : PathContext} {s : State}
    (hl : (pathAt s p).burst.all burstLawful = true → x.burst.all burstLawful = true)
    (hw : ∀ m, weightHeld x m = weightHeld (pathAt s p) m)
    (hf : ∀ m, framesToCome x m = framesToCome (pathAt s p) m) : KeepsAccounts s (setPathAt p x s) := by
  refine keepsAccounts_of_same (fun _ => rfl) (fun q => ?_) (fun q m => ?_) fun q m => ?_
  · rw [pathAt_setPathAt]
    split
    · next e => exact e ▸ hl
    · exact id
  · rw [pathAt_setPathAt]
    split
    · next e => exact e ▸ hw m
    · rfl
  · rw [pathAt_setPathAt]
    split
    · next e => exact e ▸ hf m
    · rfl

theorem count_keepsAccounts (p : PathId) (n : CounterName) (s : State) : KeepsAccounts s (count p n s) :=
  setPathAt_keepsAccounts id (fun _ => rfl) fun _ => rfl

theorem send_keepsAccounts (f : Frame) (s : State) : KeepsAccounts s (send f s) := keepsAccounts_of_fields rfl rfl

theorem addCondition_keepsAccounts (c : Condition) (s : State) : KeepsAccounts s (addCondition c s) :=
  keepsAccounts_of_fields rfl rfl

theorem offer_keepsAccounts (r : Report) (s : State) : KeepsAccounts s (offer r s) :=
  keepsAccounts_of_fields (offer_modules r s) (offer_paths r s)

theorem enterBuffer_keepsAccounts (f : Frame) (s : State) : KeepsAccounts s (enterBuffer f s) := by
  unfold enterBuffer
  refine ite_keepsAccounts (fun _ => ?_) fun _ => addCondition_keepsAccounts ..
  rw [chooseIfIdle_writes]
  exact keepsAccounts_of_fields rfl rfl

/-! ### Ends, samples and level steps (R60 to R70) -/

theorem truncateBurst_keepsAccounts (p : PathId) (s : State) : KeepsAccounts s (truncateBurst p s) := by
  cases hb : (pathAt s p).burst with
  | none =>
    rw [truncateBurst_idle hb]
    exact .refl s
  | some b =>
    rw [truncateBurst_eq_truncated hb]
    exact keepsAccounts_of_moves p fun h =>
      h.movesBurst_ended hb (c := { pathAt s p with burst := none, counters := _ }) rfl rfl _

theorem takeBurstClose_keepsAccounts (p : PathId) (spare : BitVec 9) (s : State) :
    KeepsAccounts s (takeBurstClose p spare s) := by
  cases hb : (pathAt s p).burst with
  | none =>
    rw [takeBurstClose_idle hb]
    exact count_keepsAccounts ..
  | some b =>
    rw [takeBurstClose_burst hb, endBurst_eq]
    exact keepsAccounts_of_moves p fun h => h.movesBurst_ended hb (c := { pathAt s p with burst := none }) rfl rfl _

/-- A granted burst's record is written anew, and the accounts of its module follow in both sums. -/
theorem movesBurst_of_granted {p : PathId} {s : State} {b b' : BurstRecord} {g g' : Nat}
    (hb : (pathAt s p).burst = some b) (hg : b.granted = .code g) (hg' : b'.granted = .code g')
    (hlawful : burstLawful b' = true) {x : ModuleState}
    (inFlight : x.accounts.inFlight + b.weight = (moduleAt s (pathAt s p).moduleId).accounts.inFlight + b'.weight)
    (committed : x.accounts.committed + (b.declared - b.next) =
      (moduleAt s (pathAt s p).moduleId).accounts.committed + (b'.declared - b'.next)) (k : Counters) (f : Frame) :
    MovesBurst p s (setPathAt p { pathAt s p with burst := some b', counters := k }
      (setModuleAt (pathAt s p).moduleId x (send f s))) := by
  have hb' : ({ pathAt s p with burst := some b', counters := k } : PathContext).burst = some b' := rfl
  refine movesBurst_of_set rfl rfl rfl hlawful ?_ ?_
  · rw [weightHeld_burst hb, inFlight]
    exact congrArg _ (weightHeld_burst hb').symm
  · rw [framesToCome_granted hb hg, committed]
    exact congrArg _ (framesToCome_granted hb' hg').symm

/-- A sample moves the next position on, and the committed frames fall by as much. -/
theorem forwardSample_keepsAccounts {p : PathId} {s : State} {b : BurstRecord} {g : Nat}
    (hb : (pathAt s p).burst = some b) (hg : b.granted = .code g) {position : Nat} (hlow : b.next ≤ position)
    (hhigh : position < b.declared) (f : Frame) : KeepsAccounts s (forwardSample p f position g b s) := by
  rw [forwardSample_eq]
  refine keepsAccounts_of_moves p fun h => ?_
  refine movesBurst_of_granted (b' := { b with next := position + 1, forwarded := b.forwarded + 1 }) hb hg hg ?_ ?_ ?_
    _ _
  · obtain ⟨⟨h1, h2, h3, h4, h5, h6⟩, hlevel, hbackoff⟩ := (burstLawful_granted hg).mp (h.burst_lawful hb)
    have hcounted : b.forwarded + 1 ≤ position + 1 := by omega
    refine (burstLawful_granted ?_).mpr ⟨⟨h1, h2, hhigh, hcounted, h5, h6⟩, hlevel, hbackoff⟩
    exact hg
  · rfl
  · have hframes := h.framesToCome_le p (pathAt s p).moduleId
    rw [framesToCome_granted hb hg] at hframes
    dsimp only
    omega

theorem takeSample_keepsAccounts (p : PathId) (f : Frame) (position : Nat) (s : State) :
    KeepsAccounts s (takeSample p f position s) := by
  have dropped : KeepsAccounts s (dropFrame p s) := count_keepsAccounts ..
  cases hb : (pathAt s p).burst with
  | none =>
    rw [takeSample_idle hb]
    exact dropped
  | some b =>
    cases hg : b.granted with
    | off =>
      rw [takeSample_blanked hb hg]
      exact dropped
    | code g =>
      rw [takeSample_granted hb hg]
      exact ite_keepsAccounts (fun ⟨hlow, hhigh⟩ => forwardSample_keepsAccounts hb hg hlow hhigh f) fun _ => dropped

/-- A granted burst gets a level no higher than its request; its weight and the module's weight in flight follow. -/
theorem Accounted.movesBurst_relevelled {s : State} (h : Accounted s) {p : PathId} {b : BurstRecord} {g : Nat}
    (hb : (pathAt s p).burst = some b) (hg : b.granted = .code g) {n r w : Nat} (hn : n ≤ r) (hr : r ≤ 127)
    (hw : w ≤ 65535) (lowered : Bool) (k : Counters) (f : Frame) :
    MovesBurst p s (setPathAt p { pathAt s p with
        burst := some { b with
          requested := r, granted := .code n, weight := w, backoff := some (r - n), lowered := lowered },
        counters := k }
      (setModuleAt (pathAt s p).moduleId { moduleAt s (pathAt s p).moduleId with
        accounts := { (moduleAt s (pathAt s p).moduleId).accounts with
          inFlight := (moduleAt s (pathAt s p).moduleId).accounts.inFlight + w - b.weight } } (send f s))) := by
  refine movesBurst_of_granted (g' := n) hb hg ?_ ?_ ?_ ?_ k f
  · rfl
  · obtain ⟨⟨h1, h2, h3, h4, -, -⟩, -, -⟩ := (burstLawful_granted hg).mp (h.burst_lawful hb)
    exact (burstLawful_granted rfl).mpr ⟨⟨h1, h2, h3, h4, hr, hw⟩, hn, rfl⟩
  · have hweight := h.weightHeld_le p (pathAt s p).moduleId
    rw [weightHeld_burst hb] at hweight
    dsimp only
    omega
  · rfl

theorem stepLevel_le (w : Word) : stepLevel w ≤ 127 := by
  unfold stepLevel
  split <;> omega

theorem steppedLevel_le (g a r : Nat) : steppedLevel g a r ≤ r := by
  unfold steppedLevel
  omega

theorem takeLevelStep_keepsAccounts (p : PathId) (spare : BitVec 9) (level : Word) (s : State) :
    KeepsAccounts s (takeLevelStep p spare level s) := by
  cases hb : (pathAt s p).burst with
  | none =>
    rw [takeLevelStep_idle hb]
    exact count_keepsAccounts ..
  | some b =>
    cases hg : b.granted with
    | off =>
      rw [takeLevelStep_blanked hb hg]
      exact send_keepsAccounts ..
    | code g =>
      rw [takeLevelStep_granted hb hg, stepBurst_eq rfl rfl]
      refine keepsAccounts_of_moves p fun h => ?_
      refine h.movesBurst_relevelled hb hg (steppedLevel_le ..) (stepLevel_le level) ?_ b.lowered _ _
      obtain ⟨⟨-, -, -, -, -, hweight⟩, -, -⟩ := (burstLawful_granted hg).mp (h.burst_lawful hb)
      split
      · exact weightFor_le ..
      · exact hweight

/-! ### Lowerings (R65, R88, R105) -/

theorem grantedLevel_eq_some {s : State} {p : PathId} {g : Nat} (h : grantedLevel s p = some g) :
    ∃ b, (pathAt s p).burst = some b ∧ b.granted = .code g := by
  unfold grantedLevel at h
  split at h
  · next b hb =>
    split at h
    · next hg => exact ⟨b, hb, (Option.some.inj h) ▸ hg⟩
    · exact nomatch h
  · exact nomatch h

/-- A granted burst is lowered to a level no higher than the one it has. -/
theorem lowerBurst_keepsAccounts {p : PathId} {s : State} {g n : Nat} (hp : grantedLevel s p = some g) (hn : n ≤ g) :
    KeepsAccounts s (lowerBurst p n s) := by
  obtain ⟨b, hb, hg⟩ := grantedLevel_eq_some hp
  rw [lowerBurst_burst hb, weightOn_eq_weightFor]
  refine keepsAccounts_of_moves p fun h => ?_
  obtain ⟨⟨-, -, -, -, hrequested, -⟩, hlevel, -⟩ := (burstLawful_granted hg).mp (h.burst_lawful hb)
  exact h.movesBurst_relevelled hb hg (hn.trans hlevel) hrequested (weightFor_le ..) true _ _

theorem grantedLevel_lowerBurst {p q : PathId} {s : State} (h : (grantedLevel s q).isSome = true) (n : Nat) :
    (grantedLevel (lowerBurst p n s) q).isSome = true := by
  by_cases hq : q = p
  · obtain ⟨g, hg⟩ := Option.isSome_iff_exists.mp h
    obtain ⟨b, hb, -⟩ := grantedLevel_eq_some hg
    subst hq
    rw [lowerBurst_burst hb, grantedLevel, pathAt_setPathAt_same]
    rfl
  · unfold grantedLevel
    rw [lowerBurst_otherPath hq]
    exact h

/-- A pre-emption lowers granted bursts to level 0, each granted still when its turn comes. -/
theorem preempt_keepsAccounts {qs : List PathId} {s : State} (h : ∀ q ∈ qs, (grantedLevel s q).isSome = true) :
    KeepsAccounts s (preempt qs s) := by
  induction qs generalizing s with
  | nil => exact .refl s
  | cons q qs ih =>
    obtain ⟨g, hg⟩ := Option.isSome_iff_exists.mp (h q (List.mem_cons_self ..))
    refine (lowerBurst_keepsAccounts hg (Nat.zero_le g)).trans (ih fun r hr => ?_)
    exact grantedLevel_lowerBurst (h r (List.mem_cons_of_mem q hr)) 0

theorem victims_granted {s : State} {m : ModuleId} {q : PathId} (h : q ∈ victims s m) :
    (grantedLevel s q).isSome = true := by
  have hq := (List.mem_filter.mp h).2
  unfold preemptible at hq
  split at hq
  · next e => rw [e]; rfl
  · simp at hq

theorem clampPath_keepsAccounts (m : ModuleId) (p : PathId) (s : State) : KeepsAccounts s (clampPath m p s) := by
  unfold clampPath
  split
  · exact .refl s
  · next b hb =>
    split
    · exact .refl s
    · next g hg =>
      refine ite_keepsAccounts (fun ⟨_, hlimit⟩ => ?_) fun _ => .refl s
      exact lowerBurst_keepsAccounts (by simp only [grantedLevel, hb, hg]) hlimit.le

theorem clampEntry_keepsAccounts (m : ModuleId) (s : State) : KeepsAccounts s (clampEntry m s) :=
  foldl_keepsAccounts (fun s p => clampPath_keepsAccounts m p s) allPaths s

/-! ### Opens (R57 to R59, R77 to R90) -/

/-- A grant for request `r`: no level above it and a weight of one word, or OFF without weight (R79, R90). -/
def GrantWithin (r : Nat) : Level → Nat → Prop
  | .off, w => w = 0
  | .code g, w => g ≤ r ∧ w ≤ 65535

theorem highestFit_le {p : Profile} {h i g0 g : Nat} (hg : highestFit p h i g0 = some g) : g ≤ g0 := by
  induction g0 with
  | zero =>
    unfold highestFit at hg
    split at hg
    · cases hg
      exact Nat.le_refl 0
    · exact nomatch hg
  | succ g0 ih =>
    unfold highestFit at hg
    split at hg
    · cases hg
      exact Nat.le_refl _
    · exact Nat.le_succ_of_le (ih hg)

theorem ceilingGrant_le (r ceiling : Nat) (clamp : Option Nat) : (ceilingGrant r ceiling clamp).1 ≤ r := by
  unfold ceilingGrant
  cases clamp <;> dsimp only <;> omega

theorem admitHeadroom_within (m : ModuleId) (cls : TrafficClass) (p : Profile) (r : Nat) (s : State) :
    GrantWithin r (admitHeadroom m cls p r s).1.granted (admitHeadroom m cls p r s).1.weight := by
  unfold admitHeadroom
  dsimp only
  split
  · next hfit => exact ⟨(highestFit_le hfit).trans (Nat.sub_le ..), weight_le ..⟩
  · split
    · rfl
    · split
      · next hfit => exact ⟨(highestFit_le hfit).trans (Nat.sub_le ..), weight_le ..⟩
      · rfl

theorem admitGoverning_within (m : ModuleId) (cls : TrafficClass) (p : Profile) (length r : Nat) (s : State) :
    GrantWithin r (admitGoverning m cls p length r s).1.granted (admitGoverning m cls p length r s).1.weight := by
  unfold admitGoverning
  dsimp only
  split
  · rfl
  · split
    · rfl
    · exact admitHeadroom_within ..

theorem admitStandby_within (m : ModuleId) (r : Nat) (s : State) :
    GrantWithin r (admitStandby m r s).granted (admitStandby m r s).weight := by
  unfold admitStandby
  dsimp only
  rw [weightOn_eq_weightFor]
  exact ⟨ceilingGrant_le .., weightFor_le ..⟩

theorem decideAdmission_within (p : PathId) (length r : Nat) (s : State) :
    GrantWithin r (decideAdmission p length r s).1.granted (decideAdmission p length r s).1.weight := by
  unfold decideAdmission
  dsimp only
  split
  · rfl
  · split
    · exact admitGoverning_within ..
    · exact admitStandby_within ..

theorem decideAdmission_keepsAccounts (p : PathId) (length r : Nat) (s : State) :
    KeepsAccounts s (decideAdmission p length r s).2 := by
  rcases decideAdmission_state p length r s with e | e
  · rw [e]
    exact .refl s
  · rw [e]
    exact preempt_keepsAccounts fun q hq => victims_granted hq

theorem lengthTaken_bounds (declared : Word) : 1 ≤ lengthTaken declared ∧ lengthTaken declared ≤ 64 := by
  unfold lengthTaken
  split
  · omega
  · split <;> omega

/-- A new burst joins the accounts of its module with its weight and its whole length, or, blanked, with nothing. -/
theorem opened_keepsAccounts {p : PathId} {s : State} (hidle : (pathAt s p).burst = none) {r : Nat} (hr : r ≤ 127)
    {g : Level} {w : Nat} (hgrant : GrantWithin r g w) (spare : BitVec 9) (declared : Word) (v : Verdict) (n : Nat) :
    KeepsAccounts s (opened p spare declared r v g w n s) := by
  obtain ⟨hshort, hlong⟩ := lengthTaken_bounds declared
  unfold opened
  dsimp only
  refine .trans (t := setPathAt p _ (setModuleAt _ _ _)) (keepsAccounts_of_moves p fun _ => ?_)
    (ite_keepsAccounts (fun _ => offer_keepsAccounts ..) fun _ => .refl _)
  cases g with
  | off =>
    have hzero : w = 0 := hgrant
    subst hzero
    refine movesBurst_of_set rfl rfl rfl ?_ ?_ ?_
    · exact (burstLawful_blanked rfl).mpr
        ⟨⟨hshort, hlong, Nat.zero_le _, Nat.le_refl 0, hr, Nat.zero_le _⟩, rfl, rfl, rfl⟩
    · simp [weightHeld, hidle]
    · simp [framesToCome, hidle]
  | code k =>
    obtain ⟨hlevel, hweight⟩ := hgrant
    refine movesBurst_of_set rfl rfl rfl ?_ ?_ ?_
    · exact (burstLawful_granted rfl).mpr
        ⟨⟨hshort, hlong, Nat.zero_le _, Nat.le_refl 0, hr, hweight⟩, hlevel, rfl⟩
    · simp [weightHeld, hidle]
    · simp [framesToCome, hidle]

theorem takeBurstOpen_keepsAccounts (p : PathId) (spare : BitVec 9) (declared level : Word) (s : State) :
    KeepsAccounts s (takeBurstOpen p spare declared level s) := by
  have truncated := truncateBurst_keepsAccounts p s
  rcases Nat.lt_or_ge 127 level.toNat with hoff | hcode
  · rw [takeBurstOpen_off hoff]
    exact truncated.trans (send_keepsAccounts ..)
  · rw [takeBurstOpen_code hcode]
    have hidle := decideAdmission_idlePath (truncateBurst_leavesIdle p s) (declaredLength declared) level.toNat
    refine (truncated.trans (decideAdmission_keepsAccounts ..)).trans (opened_keepsAccounts ?_ hcode
      (decideAdmission_within ..) ..)
    rw [hidle]
    exact truncateBurst_leavesIdle p s

end Sys2Proof.Machine
end

section
/-! ### The burst records and the admission accounts: every step keeps them (R56, R91) -/

namespace Sys2Proof.Machine

/-! ### Readings, firings and the ring advance (chapters 2, 3 and 6) -/

theorem notice_keepsAccounts (m : ModuleId) (old : ThrottleState) (cause : NoticeCause) (s : State) :
    KeepsAccounts s (notice m old cause s) := by
  unfold notice
  exact offer_keepsAccounts ..

/-- A change of throttle state with its notice. -/
theorem noticedThrottle_keepsAccounts (m : ModuleId) (t : ThrottleContext) (old : ThrottleState) (cause : NoticeCause)
    (s : State) : KeepsAccounts s (notice m old cause (setThrottle m t s)) :=
  (setThrottle_keepsAccounts ..).trans (notice_keepsAccounts ..)

/-- A change of throttle state with its clamp entry and its notice. -/
theorem enterClamp_keepsAccounts (m : ModuleId) (t : ThrottleContext) (old : ThrottleState) (cause : NoticeCause)
    (s : State) : KeepsAccounts s (notice m old cause (clampEntry m (setThrottle m t s))) :=
  ((setThrottle_keepsAccounts ..).trans (clampEntry_keepsAccounts ..)).trans (notice_keepsAccounts ..)

theorem strike_keepsAccounts (m : ModuleId) (c : Criterion) (p : Profile) (s : State) :
    KeepsAccounts s (strike m c p s) := by
  unfold strike
  exact enterClamp_keepsAccounts ..

theorem actOnThrottle_keepsAccounts (m : ModuleId) (c : Criterion) (s : State) :
    KeepsAccounts s (actOnThrottle m c s) := by
  unfold actOnThrottle
  dsimp only
  split
  · exact .refl s
  · split
    · exact .refl s
    · exact .refl s
    · exact setThrottle_keepsAccounts ..
    · exact strike_keepsAccounts ..
    · exact strike_keepsAccounts ..

theorem fire_keepsAccounts (m : ModuleId) (c : Criterion) (s : State) : KeepsAccounts s (fire m c s) :=
  ite_keepsAccounts (fun _ => (setThrottle_keepsAccounts ..).trans (actOnThrottle_keepsAccounts ..))
    fun _ => setThrottle_keepsAccounts ..

/-- What is written keeps the accounts, and so it does with a firing after it. -/
theorem thenFire_keepsAccounts {m : ModuleId} {c : Criterion} {fires : Prop} [Decidable fires] {s u : State}
    (h : KeepsAccounts s u) : KeepsAccounts s (if fires then fire m c u else u) :=
  ite_keepsAccounts (fun _ => h.trans (fire_keepsAccounts ..)) fun _ => h

theorem readTelemetry_keepsAccounts (a b c d e : Word) (s : State) : KeepsAccounts s (readTelemetry a b c d e s) := by
  have where_present {t : State} (u : State) (i : Nat) (h : KeepsAccounts u t) :
      KeepsAccounts u (if b.getLsbD i then t else u) := ite_keepsAccounts (fun _ => h) fun _ => .refl u
  unfold readTelemetry
  split
  · exact .refl s
  · exact ((where_present _ 0 (setContext_keepsAccounts ..)).trans
      (where_present _ 1 (thenFire_keepsAccounts (setContext_keepsAccounts ..)))).trans
      (where_present _ 2 (thenFire_keepsAccounts (setContext_keepsAccounts ..)))

theorem sortReturn_keepsAccounts (f : Frame) (s : State) : KeepsAccounts s (sortReturn f s) := by
  unfold sortReturn
  split
  · exact ite_keepsAccounts (fun _ => readTelemetry_keepsAccounts ..) fun _ => .refl s
  · exact .refl s

theorem expireSilence_keepsAccounts (m : ModuleId) (s : State) : KeepsAccounts s (expireSilence m s) :=
  ite_keepsAccounts (fun _ => (setContext_keepsAccounts ..).trans (fire_keepsAccounts ..))
    fun _ => setContext_keepsAccounts ..

theorem expireHold_keepsAccounts (m : ModuleId) (s : State) : KeepsAccounts s (expireHold m s) := by
  unfold expireHold
  dsimp only
  split
  · split
    · exact setThrottle_keepsAccounts ..
    · exact .refl s
  · exact noticedThrottle_keepsAccounts ..

theorem takeReleaseStep_keepsAccounts (m : ModuleId) (s : State) : KeepsAccounts s (takeReleaseStep m s) := by
  unfold takeReleaseStep
  dsimp only
  split
  · exact ite_keepsAccounts (fun _ => noticedThrottle_keepsAccounts ..) fun _ => setThrottle_keepsAccounts ..
  · exact .refl s

theorem advance_keepsAccounts (m : ModuleId) (s : State) : KeepsAccounts s (advance m s) :=
  (((setRing_keepsAccounts ..).trans (thenFire_keepsAccounts (setRing_keepsAccounts ..))).trans
    (takeReleaseStep_keepsAccounts ..)).trans (ite_keepsAccounts (fun _ => setScrub_keepsAccounts ..) fun _ => .refl _)

/-- The laws do not read what is left on a grace timer. -/
theorem tickPath_keepsAccounts (p : PathId) (s : State) : KeepsAccounts s (setPathAt p (tickPath (pathAt s p)) s) := by
  cases hb : (pathAt s p).burst with
  | none =>
    have unchanged : tickPath (pathAt s p) = pathAt s p := by
      rw [tickPath, hb, Option.map_none, ← hb]
    rw [unchanged, setPathAt_self]
    exact .refl s
  | some b =>
    refine setPathAt_keepsAccounts (fun h => ?_) (fun m => ?_) fun m => ?_
    · rw [hb] at h
      rw [tickPath, hb]
      exact h
    · simp [weightHeld, tickPath, hb]
    · simp [framesToCome, tickPath, hb]

theorem passTime_keepsAccounts (s : State) : KeepsAccounts s (passTime s) := by
  unfold passTime
  refine ite_keepsAccounts (fun _ => .refl s) fun _ => ?_
  have modules (u : State) (m : ModuleId) : KeepsAccounts u (setModuleAt m (tickModule (moduleAt u m)) u) :=
    setModuleAt_keepsAccounts rfl
  refine .trans ((foldl_keepsAccounts modules allModules s).trans
    (foldl_keepsAccounts (fun u p => tickPath_keepsAccounts p u) allPaths _)) ?_
  exact keepsAccounts_of_fields rfl rfl

/-! ### Loads, the long operations and what ends them (chapters 7 and 10) -/

theorem endLoad_keepsAccounts (l : LoadContext) (o : LoadOutcome) (n : Option Nat) (sh : ShadowState) (s : State) :
    KeepsAccounts s (endLoad l o n sh s) := keepsAccounts_of_fields (offer_modules ..) (offer_paths ..)

theorem takeSegment_keepsAccounts (index : Word) (words : List Word) (s : State) :
    KeepsAccounts s (takeSegment index words s) := by
  unfold takeSegment
  split
  · exact addCondition_keepsAccounts ..
  · refine ite_keepsAccounts (fun _ => ?_) fun _ => endLoad_keepsAccounts ..
    exact ite_keepsAccounts (fun _ => keepsAccounts_of_fields (offer_modules ..) (offer_paths ..))
      fun _ => keepsAccounts_of_fields rfl rfl

theorem abandonLongCommand_keepsAccounts (s : State) : KeepsAccounts s (abandonLongCommand s) := by
  unfold abandonLongCommand
  split
  · exact .refl s
  · exact keepsAccounts_of_fields rfl rfl
  · exact ite_keepsAccounts (fun _ => keepsAccounts_of_fields rfl rfl) fun _ => keepsAccounts_of_fields rfl rfl

theorem cutLoad_keepsAccounts (s : State) : KeepsAccounts s (cutLoad s) := by
  unfold cutLoad
  split
  · exact .refl s
  · exact keepsAccounts_of_fields rfl rfl

theorem abandonAll_keepsAccounts (s : State) : KeepsAccounts s (abandonScrubs (cutLoad (abandonLongCommand s))) :=
  ((abandonLongCommand_keepsAccounts s).trans (cutLoad_keepsAccounts _)).trans
    (foldl_keepsAccounts (fun _ _ => setScrub_keepsAccounts ..) allModules _)

theorem enterLockdown_keepsAccounts (cause : LockdownCause) (s : State) : KeepsAccounts s (enterLockdown cause s) :=
  (abandonAll_keepsAccounts s).trans (keepsAccounts_of_fields (offer_modules ..) (offer_paths ..))

theorem completeScrub_keepsAccounts (m : ModuleId) (s : State) : KeepsAccounts s (completeScrub m s) := by
  have ended : KeepsAccounts s (setScrub m false s) := setScrub_keepsAccounts ..
  unfold completeScrub
  dsimp only
  split
  · exact ite_keepsAccounts (fun _ => ended) fun _ => ended.trans (enterLockdown_keepsAccounts ..)
  · exact ended

theorem completePowerUp_keepsAccounts (table ring : Option StoreFault) (s : State) :
    KeepsAccounts s (completePowerUp table ring s) := by
  have recorded (r : TestResults) : KeepsAccounts s { s with testResults := r, ringFault := none } :=
    keepsAccounts_of_fields rfl rfl
  exact ite_keepsAccounts (fun _ => (recorded _).trans (enterLockdown_keepsAccounts ..))
    fun _ => keepsAccounts_of_fields (offer_modules ..) (offer_paths ..)

theorem completeTestRun_keepsAccounts (tests : TestSet) (table ring : Option StoreFault) (loop : Option LoopFault)
    (s : State) : KeepsAccounts s (completeTestRun tests table ring loop s) := by
  have recorded (r : TestResults) : KeepsAccounts s { s with testResults := r, ringFault := none } :=
    keepsAccounts_of_fields rfl rfl
  have completed (fs : List (SelfTest × TestReason)) (r : TestResults) : KeepsAccounts s
      (if critical fs then enterLockdown .test { s with testResults := r, ringFault := none }
        else { s with testResults := r, ringFault := none, deviceState := .standby }) :=
    ite_keepsAccounts (fun _ => (recorded r).trans (enterLockdown_keepsAccounts ..))
      fun _ => keepsAccounts_of_fields rfl rfl
  exact (completed _ _).trans (keepsAccounts_of_fields (offer_modules ..) (offer_paths ..))

theorem throttleTakesCommit_keepsAccounts (m : ModuleId) (p : Profile) (s : State) :
    KeepsAccounts s (throttleTakesCommit m p s) := by
  have clamping (t : ThrottleContext) (old : ThrottleState) (limit : Nat) : KeepsAccounts s
      (if limit ≤ t.strikes then notice m old .commit (clampEntry m (setThrottle m
        { t with state := .latched, strikes := limit, clampBackoff := clampBackoff p, holdTimer := none } s))
      else s) := ite_keepsAccounts (fun _ => enterClamp_keepsAccounts ..) fun _ => .refl s
  unfold throttleTakesCommit
  dsimp only
  split
  · exact noticedThrottle_keepsAccounts ..
  · exact .refl s
  · exact clamping ..
  · exact clamping ..
  · exact setThrottle_keepsAccounts ..

/-- A new profile reweighs no burst in flight; a clamp that the commit enters does (R106, R130). -/
theorem completeCommit_keepsAccounts (m : ModuleId) (check : CheckValue) (s : State) :
    KeepsAccounts s (completeCommit m check s) := by
  have inForce (a : ActiveProfile) : KeepsAccounts s (putInForce m a s) := setModuleAt_keepsAccounts rfl
  unfold completeCommit
  split
  · exact ((inForce _).trans (throttleTakesCommit_keepsAccounts ..)).trans
      (keepsAccounts_of_fields (offer_modules ..) (offer_paths ..))
  · exact keepsAccounts_of_fields (offer_modules ..) (offer_paths ..)

/-! ### Commands (chapter 9) -/

theorem answer_keepsAccounts (code : Word) (o : AnswerOutcome) (detail : List Word) {s u : State}
    (h : KeepsAccounts s u) : KeepsAccounts s (answer code o detail u) := h.trans (offer_keepsAccounts ..)

theorem refuse_keepsAccounts (cmd : Command) (o : AnswerOutcome) (s : State) : KeepsAccounts s (refuse cmd o s) :=
  answer_keepsAccounts _ _ _ (.refl s)

theorem done_keepsAccounts (cmd : Command) (detail : List Word) {s u : State} (h : KeepsAccounts s u) :
    KeepsAccounts s (done cmd detail u) := answer_keepsAccounts _ _ _ h

theorem doReadStatus_keepsAccounts (params : List Word) (s : State) : KeepsAccounts s (doReadStatus params s) := by
  have cleared : KeepsAccounts s (clearLatchedSets s) :=
    (keepsAccounts_of_fields rfl rfl : KeepsAccounts s { s with status := 0 }).trans
      (foldl_keepsAccounts (fun _ _ => setThrottle_keepsAccounts ..) allModules _)
  unfold doReadStatus
  split
  · split
    · exact done_keepsAccounts _ _ (ite_keepsAccounts (fun _ => cleared) fun _ => .refl s)
    · exact refuse_keepsAccounts ..
  · exact refuse_keepsAccounts ..

theorem doSnapshot_keepsAccounts (params : List Word) (s : State) : KeepsAccounts s (doSnapshot params s) := by
  have zeroed (u : State) (p : PathId) : KeepsAccounts u (setPathAt p { pathAt u p with counters := .zero } u) :=
    setPathAt_keepsAccounts id (fun _ => rfl) fun _ => rfl
  have cleared : KeepsAccounts s (clearCounters s) := foldl_keepsAccounts zeroed allPaths s
  unfold doSnapshot
  split
  · split
    · exact done_keepsAccounts _ _ (ite_keepsAccounts (fun _ => cleared) fun _ => .refl s)
    · exact refuse_keepsAccounts ..
  · exact refuse_keepsAccounts ..

theorem doReadEntry_keepsAccounts (params : List Word) (s : State) : KeepsAccounts s (doReadEntry params s) := by
  unfold doReadEntry
  split
  · split
    · exact done_keepsAccounts _ _ (.refl s)
    · exact refuse_keepsAccounts ..
  · exact refuse_keepsAccounts ..

/-- A path is bound to another module only while it holds nothing of either's accounts (R75). -/
theorem setIdlePath_keepsAccounts {p : PathId} {x : PathContext} {s : State} (hs : (pathAt s p).burst = none)
    (hx : x.burst = none) : KeepsAccounts s (setPathAt p x s) := by
  refine setPathAt_keepsAccounts (fun _ => by rw [hx]; rfl) (fun m => ?_) fun m => ?_
  · rw [weightHeld_idle hs, weightHeld_idle hx]
  · rw [framesToCome_idle hs, framesToCome_idle hx]

theorem doSetPath_keepsAccounts (params : List Word) (s : State) : KeepsAccounts s (doSetPath params s) := by
  unfold doSetPath
  split
  · split
    · next p _ _ _ _ _ _ _ _ _ =>
      refine ite_keepsAccounts (fun _ => refuse_keepsAccounts ..) fun hburst =>
        ite_keepsAccounts (fun _ => refuse_keepsAccounts ..) fun _ => done_keepsAccounts _ _ ?_
      have hidle : (pathAt s p).burst = none := by simpa using hburst
      exact setIdlePath_keepsAccounts hidle hidle
    · exact refuse_keepsAccounts ..
  · exact refuse_keepsAccounts ..

theorem doSetModule_keepsAccounts (params : List Word) (s : State) : KeepsAccounts s (doSetModule params s) := by
  unfold doSetModule
  split
  · split
    · exact done_keepsAccounts _ _ (setContext_keepsAccounts ..)
    · exact refuse_keepsAccounts ..
  · exact refuse_keepsAccounts ..

theorem doSetLimits_keepsAccounts (params : List Word) (s : State) : KeepsAccounts s (doSetLimits params s) := by
  unfold doSetLimits
  split
  · split
    · exact done_keepsAccounts _ _ (setContext_keepsAccounts ..)
    · exact refuse_keepsAccounts ..
  · exact refuse_keepsAccounts ..

theorem doSetDevice_keepsAccounts (params : List Word) (s : State) : KeepsAccounts s (doSetDevice params s) := by
  unfold doSetDevice
  split
  · split
    · exact done_keepsAccounts _ _ (keepsAccounts_of_fields rfl rfl)
    · exact refuse_keepsAccounts ..
  · exact refuse_keepsAccounts ..

theorem doLoadOpen_keepsAccounts (params : List Word) (s : State) : KeepsAccounts s (doLoadOpen params s) := by
  unfold doLoadOpen
  split
  · exact ite_keepsAccounts (fun _ => refuse_keepsAccounts ..) fun _ =>
      ite_keepsAccounts (fun _ => refuse_keepsAccounts ..) fun _ =>
        done_keepsAccounts _ _ (keepsAccounts_of_fields rfl rfl)
  · exact refuse_keepsAccounts ..

theorem doLoadAbort_keepsAccounts (params : List Word) (s : State) : KeepsAccounts s (doLoadAbort params s) := by
  unfold doLoadAbort
  split
  · exact done_keepsAccounts _ _ (endLoad_keepsAccounts ..)
  · exact refuse_keepsAccounts ..

theorem doCommit_keepsAccounts (params : List Word) (s : State) : KeepsAccounts s (doCommit params s) := by
  unfold doCommit
  split
  · split
    · exact refuse_keepsAccounts ..
    · next m _ =>
      refine ite_keepsAccounts (fun _ => refuse_keepsAccounts ..) fun _ =>
        ite_keepsAccounts (fun _ => refuse_keepsAccounts ..) fun _ => ?_
      refine .trans (keepsAccounts_of_fields ?_ ?_) (setScrub_keepsAccounts m false _) <;> rfl
  · exact refuse_keepsAccounts ..

theorem doGovern_keepsAccounts (params : List Word) (s : State) : KeepsAccounts s (doGovern params s) := by
  refine ite_keepsAccounts (fun _ => ?_) fun _ => refuse_keepsAccounts ..
  split
  · exact answer_keepsAccounts _ _ _ (.refl s)
  · exact done_keepsAccounts _ _ (keepsAccounts_of_fields rfl rfl)

theorem doStandby_keepsAccounts (params : List Word) (s : State) : KeepsAccounts s (doStandby params s) :=
  ite_keepsAccounts (fun _ => done_keepsAccounts _ _ (keepsAccounts_of_fields rfl rfl))
    fun _ => refuse_keepsAccounts ..

theorem doClearLatch_keepsAccounts (params : List Word) (s : State) : KeepsAccounts s (doClearLatch params s) := by
  unfold doClearLatch
  split
  · split
    · exact refuse_keepsAccounts ..
    · exact ite_keepsAccounts (fun _ => done_keepsAccounts _ _ (noticedThrottle_keepsAccounts ..))
        fun _ => refuse_keepsAccounts ..
  · exact refuse_keepsAccounts ..

theorem doRunTests_keepsAccounts (params : List Word) (s : State) : KeepsAccounts s (doRunTests params s) := by
  unfold doRunTests
  split
  · exact ite_keepsAccounts (fun _ => refuse_keepsAccounts ..) fun _ =>
      ite_keepsAccounts (fun _ => refuse_keepsAccounts ..) fun _ =>
      ite_keepsAccounts (fun _ => refuse_keepsAccounts ..) fun _ =>
      ite_keepsAccounts (fun _ => keepsAccounts_of_fields rfl rfl) fun _ => keepsAccounts_of_fields rfl rfl
  · exact refuse_keepsAccounts ..

theorem doSoftRestart_keepsAccounts (params : List Word) (s : State) : KeepsAccounts s (doSoftRestart params s) := by
  have truncated (u : State) : KeepsAccounts u (truncateAll u) :=
    foldl_keepsAccounts (fun u p => truncateBurst_keepsAccounts p u) allPaths u
  have ended := (abandonAll_keepsAccounts s).trans (truncated _)
  unfold doSoftRestart
  dsimp only
  generalize truncateAll (abandonScrubs (cutLoad (abandonLongCommand s))) = u at ended ⊢
  exact done_keepsAccounts _ _ (ended.trans (keepsAccounts_of_fields rfl rfl))

/-- After a reset no path is in a burst and every account is 0. -/
theorem reset_accounted : Accounted State.reset := ⟨by decide, by decide⟩

theorem keepsAccounts_of_reset {s t : State} (hm : t.modules = State.reset.modules)
    (hp : t.paths = State.reset.paths) : KeepsAccounts s t :=
  ⟨fun _ => (keepsAccounts_of_fields hm hp).accounted reset_accounted⟩

/-! ### The Command Unit and the ports -/

theorem takeCommand_keepsAccounts {cmd : Command} {effect : List Word → State → State} {params : List Word}
    {s : State} (h : KeepsAccounts s (effect params s)) : KeepsAccounts s (takeCommand cmd effect params s) := by
  unfold takeCommand
  refine ite_keepsAccounts (fun _ => addCondition_keepsAccounts ..) fun _ => ?_
  split
  · exact refuse_keepsAccounts ..
  · exact ite_keepsAccounts (fun _ => refuse_keepsAccounts ..) fun _ => h

theorem takeControl_keepsAccounts (code : Word) (params : List Word) (s : State) :
    KeepsAccounts s (takeControl code params s) := by
  unfold takeControl
  split
  · exact ite_keepsAccounts (fun _ => addCondition_keepsAccounts ..) fun _ => answer_keepsAccounts _ _ _ (.refl s)
  all_goals apply takeCommand_keepsAccounts
  · exact done_keepsAccounts _ _ (.refl s)
  · exact doReadStatus_keepsAccounts params s
  · exact doSetPath_keepsAccounts params s
  · exact doSetModule_keepsAccounts params s
  · exact doSetLimits_keepsAccounts params s
  · exact doSetDevice_keepsAccounts params s
  · exact doLoadOpen_keepsAccounts params s
  · exact doLoadAbort_keepsAccounts params s
  · exact doCommit_keepsAccounts params s
  · exact doGovern_keepsAccounts params s
  · exact doStandby_keepsAccounts params s
  · exact doClearLatch_keepsAccounts params s
  · exact doSnapshot_keepsAccounts params s
  · exact doReadEntry_keepsAccounts params s
  · exact doRunTests_keepsAccounts params s
  · exact doSoftRestart_keepsAccounts params s
  · exact keepsAccounts_of_reset rfl rfl

theorem takeForward_keepsAccounts (f : Frame) {handler : State → State} {s : State}
    (h : KeepsAccounts s (handler s)) : KeepsAccounts s (takeForward f handler s) :=
  ite_keepsAccounts (fun _ => .refl s) fun _ => ite_keepsAccounts (fun _ => h) fun _ => addCondition_keepsAccounts ..

theorem modemPort_keepsAccounts (f : Frame) {handler : State → State} {s : State}
    (h : KeepsAccounts s (handler s)) : KeepsAccounts s (modemPort f handler s) :=
  ite_keepsAccounts (fun _ => keepsAccounts_of_fields rfl rfl) fun _ => takeForward_keepsAccounts f h

theorem radioPort_keepsAccounts (f : Frame) {reading : State → State} {s : State}
    (h : KeepsAccounts s (reading s)) : KeepsAccounts s (radioPort f reading s) :=
  ite_keepsAccounts (fun _ => .refl s) fun _ =>
    (ite_keepsAccounts (fun _ => h) fun _ => addCondition_keepsAccounts ..).trans (enterBuffer_keepsAccounts ..)

theorem sortForward_keepsAccounts (f : Frame) (s : State) : KeepsAccounts s (sortForward f s) := by
  unfold sortForward
  repeat' split
  · exact takeSample_keepsAccounts ..
  · exact .refl s
  · exact takeBurstOpen_keepsAccounts ..
  · exact .refl s
  · exact takeBurstClose_keepsAccounts ..
  · exact takeLevelStep_keepsAccounts ..
  · exact .refl s
  · exact takeControl_keepsAccounts ..
  · exact .refl s
  · exact takeSegment_keepsAccounts ..
  · exact .refl s
  · exact send_keepsAccounts ..

theorem takeWaiting_keepsAccounts (fs : List Frame) (s : State) : KeepsAccounts s (takeWaiting fs s) := by
  induction fs generalizing s with
  | nil => exact keepsAccounts_of_fields rfl rfl
  | cons f fs ih =>
    have waiting (gs : List Frame) : KeepsAccounts s { s with modemWaiting := gs } := keepsAccounts_of_fields rfl rfl
    unfold takeWaiting
    refine ite_keepsAccounts (fun _ => ?_) fun _ => waiting _
    exact ((waiting fs).trans (takeForward_keepsAccounts f (sortForward_keepsAccounts f _))).trans (ih _)

/-! ### Every step -/

/-- If the part goes on, its accounts stay exact. -/
def GoesOnAccounted (s : State) (o : Host.Outcome State Fault Refusal) : Prop := ∀ t, o = .next t → KeepsAccounts s t

theorem goesOnAccounted_next {s t : State} (h : KeepsAccounts s t) : GoesOnAccounted s (.next t) := by
  intro u e
  cases e
  exact h

theorem goesOnAccounted_ite {b : Prop} [Decidable b] {s t u : State} (ht : KeepsAccounts s t)
    (hu : KeepsAccounts s u) : GoesOnAccounted s (if b then .next t else .next u) := by
  split
  · exact goesOnAccounted_next ht
  · exact goesOnAccounted_next hu

theorem goesOnAccounted_port (f : Frame) {handler : State → State} {s : State} (h : KeepsAccounts s (handler s)) :
    GoesOnAccounted s (.next (modemPort f handler s)) := goesOnAccounted_next (modemPort_keepsAccounts f h)

theorem goesOnAccounted_control (code : Word) (params : List Word) (s : State) :
    GoesOnAccounted s (.next (controlArrives code params (takeControl code params) s)) :=
  goesOnAccounted_port _ (takeControl_keepsAccounts ..)

theorem execGapTimerExpiry_goesOnAccounted (s : State) : GoesOnAccounted s (execGapTimerExpiry s) := by
  unfold execGapTimerExpiry
  split
  · exact goesOnAccounted_next (.refl s)
  · exact goesOnAccounted_next (endLoad_keepsAccounts ..)

theorem execCommitCompletion_goesOnAccounted (s : State) : GoesOnAccounted s (execCommitCompletion s) := by
  unfold execCommitCompletion
  split
  · exact goesOnAccounted_next (completeCommit_keepsAccounts ..)
  · exact goesOnAccounted_next (.refl s)
  · exact goesOnAccounted_next (.refl s)

theorem execTestRunCompletion_goesOnAccounted (table ring : Option StoreFault) (loop : Option LoopFault) (s : State) :
    GoesOnAccounted s (execTestRunCompletion table ring loop s) := by
  unfold execTestRunCompletion
  split
  · exact goesOnAccounted_next (completeTestRun_keepsAccounts ..)
  · exact goesOnAccounted_next (.refl s)
  · exact goesOnAccounted_next (.refl s)

theorem execDroopAssertingEdge_goesOnAccounted (s : State) : GoesOnAccounted s (execDroopAssertingEdge s) := by
  have asserted : KeepsAccounts s { s with droopLine := true } := keepsAccounts_of_fields rfl rfl
  exact goesOnAccounted_ite asserted
    (asserted.trans (foldl_keepsAccounts (fun u m => fire_keepsAccounts m .droop u) allModules _))

theorem exec_goesOnAccounted (i : Instr) (s : State) : GoesOnAccounted s (exec i s) := by
  cases i with
  | sample => exact goesOnAccounted_port _ (takeSample_keepsAccounts ..)
  | burstOpen => exact goesOnAccounted_port _ (takeBurstOpen_keepsAccounts ..)
  | burstClose => exact goesOnAccounted_port _ (takeBurstClose_keepsAccounts ..)
  | levelStep => exact goesOnAccounted_port _ (takeLevelStep_keepsAccounts ..)
  | segment => exact goesOnAccounted_port _ (takeSegment_keepsAccounts ..)
  | forwardPassThrough => exact goesOnAccounted_port _ (sortForward_keepsAccounts ..)
  | forwardFrameFailingItsCheck => exact goesOnAccounted_port _ (sortForward_keepsAccounts ..)
  | forwardOutputSent =>
    have sent : KeepsAccounts s { s with forwardOutput := s.forwardOutput.tail } := keepsAccounts_of_fields rfl rfl
    exact goesOnAccounted_ite (.refl s) (sent.trans (takeWaiting_keepsAccounts ..))
  | telemetry => exact goesOnAccounted_next (radioPort_keepsAccounts _ (readTelemetry_keepsAccounts ..))
  | returnFrame => exact goesOnAccounted_next (radioPort_keepsAccounts _ (sortReturn_keepsAccounts ..))
  | mergeArbiterChoice =>
    refine goesOnAccounted_ite (.refl s) ?_
    rw [mergeChoice_writes]
    exact keepsAccounts_of_fields rfl rfl
  | binExpiry m => exact goesOnAccounted_ite (.refl s) (advance_keepsAccounts m s)
  | holdExpiry m => exact goesOnAccounted_ite (expireHold_keepsAccounts m s) (.refl s)
  | silenceTimerExpiry m => exact goesOnAccounted_ite (expireSilence_keepsAccounts m s) (.refl s)
  | graceExpiry p => exact goesOnAccounted_ite (.refl s) (truncateBurst_keepsAccounts p s)
  | gapTimerExpiry => exact execGapTimerExpiry_goesOnAccounted s
  | commitCompletion => exact execCommitCompletion_goesOnAccounted s
  | testRunCompletion table ring loop => exact execTestRunCompletion_goesOnAccounted table ring loop s
  | powerUpTestsCompletion table ring =>
    exact goesOnAccounted_ite (completePowerUp_keepsAccounts table ring s) (.refl s)
  | scrubCompletion m => exact goesOnAccounted_ite (completeScrub_keepsAccounts m s) (.refl s)
  | ringStoreBinExamination m bin found =>
    have recorded : KeepsAccounts s { s with ringFault := s.ringFault.or found } := keepsAccounts_of_fields rfl rfl
    exact goesOnAccounted_ite (recorded.trans (setRing_keepsAccounts ..)) (.refl s)
  | resetPinAssertion => exact goesOnAccounted_next (keepsAccounts_of_reset rfl rfl)
  | resetPinRelease => exact goesOnAccounted_next (keepsAccounts_of_reset rfl rfl)
  | droopAssertingEdge => exact execDroopAssertingEdge_goesOnAccounted s
  | droopReleasingEdge => exact goesOnAccounted_next (keepsAccounts_of_fields rfl rfl)
  | identify params => exact goesOnAccounted_control (commandCode .identify) params s
  | readStatus params => exact goesOnAccounted_control (commandCode .readStatus) params s
  | setPath params => exact goesOnAccounted_control (commandCode .setPath) params s
  | setModule params => exact goesOnAccounted_control (commandCode .setModule) params s
  | setLimits params => exact goesOnAccounted_control (commandCode .setLimits) params s
  | setDevice params => exact goesOnAccounted_control (commandCode .setDevice) params s
  | loadOpen params => exact goesOnAccounted_control (commandCode .loadOpen) params s
  | loadAbort params => exact goesOnAccounted_control (commandCode .loadAbort) params s
  | commit params => exact goesOnAccounted_control (commandCode .commit) params s
  | govern params => exact goesOnAccounted_control (commandCode .govern) params s
  | standby params => exact goesOnAccounted_control (commandCode .standby) params s
  | clearLatch params => exact goesOnAccounted_control (commandCode .clearLatch) params s
  | snapshot params => exact goesOnAccounted_control (commandCode .snapshot) params s
  | readEntry params => exact goesOnAccounted_control (commandCode .readEntry) params s
  | runTests params => exact goesOnAccounted_control (commandCode .runTests) params s
  | softRestart params => exact goesOnAccounted_control (commandCode .softRestart) params s
  | hardReset params a b =>
    have strapped : KeepsAccounts s { s with nsel1 := a, nsel0 := b } := keepsAccounts_of_fields rfl rfl
    have taken := takeControl_keepsAccounts (commandCode .hardReset) params { s with nsel1 := a, nsel0 := b }
    exact goesOnAccounted_next (strapped.trans (modemPort_keepsAccounts _ taken))
  | unknownCommand code params => exact goesOnAccounted_control code params s

theorem step_keepsAccounts {s t : State} (h : step s = .next t) : KeepsAccounts s t := by
  unfold step at h
  split at h
  · next c rest _ =>
    have taken : KeepsAccounts s { s with pending := rest } := keepsAccounts_of_fields rfl rfl
    exact taken.trans (exec_goesOnAccounted c _ t h)
  · unfold idle at h
    split at h
    · exact exec_goesOnAccounted _ s t h
    · exact goesOnAccounted_next (passTime_keepsAccounts s) t h

/-- Settles O57: each act that moves one path's burst moves its module's accounts by what that path holds, and no other
act writes a burst or an account. -/
theorem everyStepKeepsTheAccountsExact : Obligations.EveryStepKeepsTheAccountsExact := by
  intro s t hbursts haccounts hstep
  obtain ⟨bursts, accounts⟩ := (step_keepsAccounts hstep).accounted ⟨hbursts, haccounts⟩
  exact ⟨bursts, accounts⟩

end Sys2Proof.Machine
end

section
/-! ### Admission and the headroom arbiter (R77 to R90) -/

namespace Sys2Proof.Machine

open Sys2Proof.Claim

/-! ### The opening of a burst by its decision (R58, R77) -/

/-- A BURST OPEN on an IDLE path opens its burst as the admission decides, on the part that the admission leaves. -/
theorem exec_burstOpen_decided {p : PathId} {declared level : Word} {s u : State} {d : Decision} (hport : PortOpen s)
    (hcode : level.toNat ≤ 127) (hidle : (pathAt s p).burst = none)
    (hdecided : decideAdmission p (lengthTaken declared) level.toNat s = (d, u)) (spare : BitVec 9) :
    exec (.burstOpen p spare declared level) s =
      .next (opened p spare declared level.toNat d.verdict d.granted d.weight d.preempted u) := by
  obtain ⟨hon, hempty, hnowait⟩ := hport
  rw [exec_burstOpen_taken hon hempty hnowait, takeBurstOpen_code hcode, truncateBurst_idle hidle, openedByAdmission,
    declaredLength_eq_lengthTaken, hdecided]

/-! ### Which admission decides (R78, R81, R82) -/

theorem decideAdmission_blanked {p : PathId} {s : State} {reason : BlankReason}
    (h : openingBlank s.deviceState (pathAt s p).enabled = some reason) (length r : Nat) :
    decideAdmission p length r s = (blankFor reason 0, s) := by
  simp only [decideAdmission, h]

/-- In STANDBY and in GOVERNING the only opening test is that of the path. -/
theorem openingBlank_working {d : DeviceState} (h : d = .standby ∨ d = .governing) (enabled : Bool) :
    openingBlank d enabled = if enabled then none else some .pathOff := by
  rcases h with rfl | rfl <;> rfl

theorem decideAdmission_ungoverned {p : PathId} {s : State} (henabled : (pathAt s p).enabled = true)
    (hstate : s.deviceState = .standby ∨
      (s.deviceState = .governing ∧ (moduleAt s (pathAt s p).moduleId).active = none)) (length r : Nat) :
    decideAdmission p length r s = (admitStandby (pathAt s p).moduleId r s, s) := by
  rcases hstate with hstandby | ⟨hgoverning, hbare⟩
  · simp only [decideAdmission, hstandby, openingBlank, henabled, if_true]
  · simp only [decideAdmission, hgoverning, openingBlank, henabled, if_true, profileOf, hbare, Option.map_none]

theorem decideAdmission_governed {p : PathId} {a : ActiveProfile} {s : State} (h : Governed p a s) (length r : Nat) :
    decideAdmission p length r s =
      admitGoverning (pathAt s p).moduleId (pathAt s p).trafficClass a.words length r s := by
  obtain ⟨_, hgoverning, henabled, _, hactive⟩ := h
  simp only [decideAdmission, hgoverning, openingBlank, henabled, if_true, profileOf, hactive, Option.map_some]

/-! ### The clamp, the backoff and the two tests, as the statements spell them (R82 to R84, R97) -/

theorem clampInForce_eq_clampOf (t : ThrottleContext) : clampInForce t = clampOf t := by
  unfold clampInForce clampOf
  cases t.state <;> rfl

theorem effectiveBackoff_eq_backoffFor (p : PathId) (a : ActiveProfile) (s : State) :
    effectiveBackoff (recordOf p a s).backoff (clampInForce (moduleAt s (pathAt s p).moduleId).throttle) =
      backoffFor p a s := by
  rw [clampInForce_eq_clampOf]
  unfold effectiveBackoff backoffFor
  cases clampOf (moduleAt s (pathAt s p).moduleId).throttle <;> rfl

theorem recordInForce_eq_recordOf (p : PathId) (a : ActiveProfile) (s : State) :
    recordInForce a.words (moduleAt s (pathAt s p).moduleId) = recordOf p a s := rfl

/-- The duty test applies only under an allowance, and only past it. -/
theorem overDuty_iff {allowance : Option Nat} {windowFrames committed length : Nat} :
    overDuty allowance windowFrames committed length = true ↔
      ∃ k, allowance = some k ∧ 16 * k < windowFrames + committed + length := by
  cases allowance <;> simp [overDuty]

theorem admitGoverning_notAdmitted {p : PathId} {a : ActiveProfile} {s : State}
    (h : admits (recordOf p a s).classes (pathAt s p).trafficClass = false) (length r : Nat) :
    admitGoverning (pathAt s p).moduleId (pathAt s p).trafficClass a.words length r s = (blankFor .notAdmitted 0, s) := by
  simp only [admitGoverning, recordInForce_eq_recordOf, h, Bool.not_false, if_true]

theorem admitGoverning_overDuty {p : PathId} {a : ActiveProfile} {s : State} {length : Nat}
    (hclass : admits (recordOf p a s).classes (pathAt s p).trafficClass = true)
    (hduty : overDuty (recordOf p a s).allowance (moduleAt s (pathAt s p).moduleId).ring.windowFrames
      (moduleAt s (pathAt s p).moduleId).accounts.committed length = true) (r : Nat) :
    admitGoverning (pathAt s p).moduleId (pathAt s p).trafficClass a.words length r s = (blankFor .duty 0, s) := by
  simp [admitGoverning, recordInForce_eq_recordOf, hclass, hduty]

theorem admitGoverning_passes {p : PathId} {a : ActiveProfile} {s : State} {length : Nat}
    (h : PassesClassAndDuty p a length s) (r : Nat) :
    admitGoverning (pathAt s p).moduleId (pathAt s p).trafficClass a.words length r s =
      admitHeadroom (pathAt s p).moduleId (pathAt s p).trafficClass a.words r s := by
  obtain ⟨hclass, hallowed⟩ := h
  have hduty : ¬ overDuty (recordOf p a s).allowance (moduleAt s (pathAt s p).moduleId).ring.windowFrames
      (moduleAt s (pathAt s p).moduleId).accounts.committed length = true := by
    intro hover
    obtain ⟨k, hk, hpast⟩ := overDuty_iff.mp hover
    exact Nat.not_le.mpr hpast (hallowed k hk)
  simp [admitGoverning, recordInForce_eq_recordOf, hclass, hduty]

/-! ### Blanks by the first test that applies (R78, R82, R83) -/

/-- Settles O16: each case fixes the answer of the tests before it, so the decision is that blank. -/
theorem aBurstIsBlankedByTheFirstTestThatApplies : Obligations.ABurstIsBlankedByTheFirstTestThatApplies := by
  intro p spare declared level s hport hcode hidle x run blanked
  have blanked_of {reason : BlankReason}
      (h : decideAdmission p (lengthTaken declared) level.toNat s = (blankFor reason 0, s)) : run = blanked reason :=
    exec_burstOpen_decided hport hcode hidle h spare
  refine ⟨fun hlockdown => ?_, fun htesting => ?_, fun hworking hoff => ?_, fun a hgoverned => ?_⟩
  · exact blanked_of (decideAdmission_blanked (by rw [hlockdown]; rfl) ..)
  · exact blanked_of (decideAdmission_blanked (by rcases htesting with h | h <;> rw [h] <;> rfl) ..)
  · exact blanked_of (decideAdmission_blanked (by rw [openingBlank_working hworking, hoff]; rfl) ..)
  · have hdecided := decideAdmission_governed hgoverned (lengthTaken declared) level.toNat
    refine ⟨fun hclass => ?_, fun k hclass hallowance hpast => ?_⟩
    · exact blanked_of (hdecided.trans (admitGoverning_notAdmitted hclass ..))
    · exact blanked_of (hdecided.trans (admitGoverning_overDuty hclass (overDuty_iff.mpr ⟨k, hallowance, hpast⟩) _))

/-! ### The standby ceiling and the clamp (R81) -/

theorem admitStandby_unclamped {m : ModuleId} {s : State}
    (h : (moduleAt s m).active = none ∨ clampOf (moduleAt s m).throttle = none) (r : Nat) :
    admitStandby m r s =
      ⟨if min r s.standbyCeiling = r then .pass else .trim .ceiling, .code (min r s.standbyCeiling),
        weightFor (moduleAt s m) (min r s.standbyCeiling), 0⟩ := by
  have hclamp : (if (moduleAt s m).active.isSome then clampInForce (moduleAt s m).throttle else none) = none := by
    rw [clampInForce_eq_clampOf]
    rcases h with h | h <;> simp [h]
  simp only [admitStandby, hclamp, ceilingGrant, weightOn_eq_weightFor]

theorem admitStandby_clamped {m : ModuleId} {s : State} {a : ActiveProfile} {k : Nat}
    (hactive : (moduleAt s m).active = some a) (hclamp : clampOf (moduleAt s m).throttle = some k) (r : Nat) :
    let top := min r s.standbyCeiling
    let g := min top (r - k)
    admitStandby m r s =
      ⟨if g = r then .pass else if r - k ≤ top then .trim .clamp else .trim .ceiling, .code g,
        weightFor (moduleAt s m) g, 0⟩ := by
  simp only [admitStandby, hactive, Option.isSome_some, if_true, clampInForce_eq_clampOf, hclamp, ceilingGrant,
    weightOn_eq_weightFor]

/-- Settles O17: without a profile the clamp is not looked at; with one, the clamp in force limits the level too. -/
theorem aBurstIsHeldToTheCeilingAndTheClamp : Obligations.ABurstIsHeldToTheCeilingAndTheClamp := by
  intro p spare declared level s hport hcode hidle henabled x hstate r top grant
  have hdecided := decideAdmission_ungoverned henabled hstate (lengthTaken declared) r
  refine ⟨fun hunclamped => ?_, fun a k hactive hclamp => ?_⟩
  · rw [admitStandby_unclamped hunclamped] at hdecided
    exact exec_burstOpen_decided hport hcode hidle hdecided spare
  · rw [admitStandby_clamped hactive hclamp] at hdecided
    exact exec_burstOpen_decided hport hcode hidle hdecided spare

/-! ### The level search (R84 to R86) -/

/-- A level found beside the weight in flight is granted, and no burst is touched. -/
theorem admitHeadroom_fits {p : PathId} {a : ActiveProfile} {s : State} {r g : Nat}
    (h : highestFit a.words (recordOf p a s).headroom (moduleAt s (pathAt s p).moduleId).accounts.inFlight
      (r - backoffFor p a s) = some g) :
    admitHeadroom (pathAt s p).moduleId (pathAt s p).trafficClass a.words r s =
      (⟨grantVerdict (recordOf p a s).backoff (backoffFor p a s) (r - backoffFor p a s) g, .code g, weight a.words g, 0⟩,
        s) := by
  simp only [admitHeadroom, recordInForce_eq_recordOf, effectiveBackoff_eq_backoffFor, h]

/-- Past the opening, class and duty tests the decision is the headroom arbiter's. -/
theorem decideAdmission_byHeadroom {p : PathId} {a : ActiveProfile} {s : State} {length : Nat}
    (hgoverned : Governed p a s) (hpasses : PassesClassAndDuty p a length s) (r : Nat) :
    decideAdmission p length r s =
      admitHeadroom (pathAt s p).moduleId (pathAt s p).trafficClass a.words r s :=
  (decideAdmission_governed hgoverned length r).trans (admitGoverning_passes hpasses r)

/-- Settles O18: the search finds the highest level that fits, and its verdict is that of the grant. -/
theorem aBurstIsGrantedTheHighestLevelThatFits : Obligations.ABurstIsGrantedTheHighestLevelThatFits := by
  intro p spare declared level s a g hgoverned hcode hpasses x g0 room hle hroom habove
  have hfit : highestFit a.words (recordOf p a s).headroom x.accounts.inFlight g0 = some g :=
    highestFit_some hle hroom habove
  have hdecided := (decideAdmission_byHeadroom hgoverned hpasses level.toNat).trans (admitHeadroom_fits hfit)
  obtain ⟨hport, _, _, hidle, _⟩ := hgoverned
  exact exec_burstOpen_decided hport hcode hidle hdecided spare

/-! ### Pre-emption (R65, R87 to R89) -/

theorem victims_eq_dataAbove0 (s : State) (m : ModuleId) : victims s m = dataAbove0 s m := by
  unfold victims dataAbove0
  refine congrArg (List.filter · allPaths) (funext fun q => ?_)
  unfold preemptible grantedLevel
  cases (pathAt s q).burst with
  | none => rfl
  | some b => dsimp only; cases b.granted <;> rfl

theorem lowerBurst_eq_lowered {q : PathId} {s : State} {b : BurstRecord} (h : (pathAt s q).burst = some b) (n : Nat) :
    lowerBurst q n s = lowered q b n s := by
  rw [lowerBurst_burst h, weightOn_eq_weightFor]
  rfl

theorem preempt_eq_loweredTo0 (qs : List PathId) (s : State) : preempt qs s = loweredTo0 qs s := by
  unfold preempt loweredTo0
  refine congrArg (fun act => qs.foldl act s) (funext fun u => funext fun q => ?_)
  split
  · next b hb => exact lowerBurst_eq_lowered hb 0
  · next hb => exact lowerBurst_idle hb 0

/-- The decision once `n` bursts are pre-empted, by the level that the second search finds (R89). -/
def decisionAfterPreemption (prof : Profile) (n : Nat) : Option Nat → Decision
  | some g => ⟨.trim .preempt, .code g, weight prof g, n⟩
  | none => blankFor .headroom n

section Preempting

variable {p : PathId} {a : ActiveProfile} {s : State} {r : Nat}

/-- With no level that fits, a DATA burst, or one with nothing to pre-empt, is blanked. -/
theorem admitHeadroom_nothingToPreempt
    (hfull : highestFit a.words (recordOf p a s).headroom (moduleAt s (pathAt s p).moduleId).accounts.inFlight
      (r - backoffFor p a s) = none)
    (h : (pathAt s p).trafficClass = .data ∨ dataAbove0 s (pathAt s p).moduleId = []) :
    admitHeadroom (pathAt s p).moduleId (pathAt s p).trafficClass a.words r s = (blankFor .headroom 0, s) := by
  simp only [admitHeadroom, recordInForce_eq_recordOf, effectiveBackoff_eq_backoffFor, hfull, victims_eq_dataAbove0,
    if_pos h]

/-- With no level that fits, a higher class pre-empts the DATA bursts, and searches again on the part this leaves. -/
theorem admitHeadroom_preempts
    (hfull : highestFit a.words (recordOf p a s).headroom (moduleAt s (pathAt s p).moduleId).accounts.inFlight
      (r - backoffFor p a s) = none)
    (hclass : (pathAt s p).trafficClass ≠ .data) (hvictims : dataAbove0 s (pathAt s p).moduleId ≠ []) :
    let qs := dataAbove0 s (pathAt s p).moduleId
    let u := loweredTo0 qs s
    admitHeadroom (pathAt s p).moduleId (pathAt s p).trafficClass a.words r s =
      (decisionAfterPreemption a.words qs.length (highestFit a.words (recordOf p a s).headroom
        (moduleAt u (pathAt s p).moduleId).accounts.inFlight (r - backoffFor p a s)), u) := by
  have hpreempts : ¬ ((pathAt s p).trafficClass = .data ∨ dataAbove0 s (pathAt s p).moduleId = []) :=
    not_or.mpr ⟨hclass, hvictims⟩
  simp only [admitHeadroom, recordInForce_eq_recordOf, effectiveBackoff_eq_backoffFor, hfull, victims_eq_dataAbove0,
    if_neg hpreempts, preempt_eq_loweredTo0]
  generalize highestFit a.words _ _ _ = found
  cases found <;> rfl

end Preempting

/-- Settles O19: the first search finds nothing; then the class and the victims decide between a blank and a second
search on the part with the victims lowered. -/
theorem aHigherClassPreemptsData : Obligations.AHigherClassPreemptsData := by
  intro p spare declared level s a hgoverned hcode hpasses m g0 h qs u hfull
  have hnofit : highestFit a.words h (moduleAt s m).accounts.inFlight g0 = none := highestFit_none.mpr hfull
  have hdecided := decideAdmission_byHeadroom hgoverned hpasses level.toNat
  obtain ⟨hport, _, _, hidle, _⟩ := hgoverned
  refine ⟨fun hnothing => ?_, fun hclass hvictims => ?_⟩
  · rw [admitHeadroom_nothingToPreempt hnofit hnothing] at hdecided
    exact exec_burstOpen_decided hport hcode hidle hdecided spare
  · rw [admitHeadroom_preempts hnofit hclass hvictims] at hdecided
    refine ⟨fun g hle hfits habove => ?_, fun hstillfull => ?_⟩
    · have hfit : highestFit a.words h (moduleAt u m).accounts.inFlight g0 = some g := highestFit_some hle hfits habove
      rw [hfit] at hdecided
      exact exec_burstOpen_decided hport hcode hidle hdecided spare
    · have hnone : highestFit a.words h (moduleAt u m).accounts.inFlight g0 = none := highestFit_none.mpr hstillfull
      rw [hnone] at hdecided
      exact exec_burstOpen_decided hport hcode hidle hdecided spare

end Sys2Proof.Machine
end

section
/-! ### The throttle: what a firing, a hold expiry, CLEAR LATCH and a commit do to it (R99 to R109) -/

namespace Sys2Proof.Machine

open Sys2Proof.Claim

/-! ### Notices of a change (R109) -/

/-- A notice carries the throttle context that the change left. -/
theorem notice_eq_offer {m : ModuleId} {t : ThrottleContext} {s : State} (h : (moduleAt s m).throttle = t)
    (old : ThrottleState) (cause : NoticeCause) :
    notice m old cause s = offer (.throttleNotice m old t.state cause t.strikes t.clampBackoff) s := by
  rw [notice, h]

theorem setThrottle_throttle (m : ModuleId) (t : ThrottleContext) (s : State) :
    (moduleAt (setThrottle m t s) m).throttle = t := by
  rw [setThrottle_eq, moduleAt_setModuleAt_same]

theorem setThrottle_active (m : ModuleId) (t : ThrottleContext) (s : State) :
    (moduleAt (setThrottle m t s) m).active = (moduleAt s m).active := by
  rw [setThrottle_eq, moduleAt_setModuleAt_same]

theorem setThrottle_twice (m : ModuleId) (t u : ThrottleContext) (s : State) :
    setThrottle m t (setThrottle m u s) = setThrottle m t s := by
  rw [setThrottle_eq, setThrottle_eq, moduleAt_setModuleAt_same, setModuleAt_twice]
  rfl

/-- The notice of a change of throttle state. -/
theorem notice_setThrottle (m : ModuleId) (old : ThrottleState) (cause : NoticeCause) (t : ThrottleContext) (s : State) :
    notice m old cause (setThrottle m t s) =
      offer (.throttleNotice m old t.state cause t.strikes t.clampBackoff) (setThrottle m t s) :=
  notice_eq_offer (setThrottle_throttle m t s) old cause

/-- The notice of a change with a clamp entry, which leaves the throttle context alone. -/
theorem notice_clampEntry (m : ModuleId) (old : ThrottleState) (cause : NoticeCause) (t : ThrottleContext) (s : State) :
    notice m old cause (clampEntry m (setThrottle m t s)) =
      offer (.throttleNotice m old t.state cause t.strikes t.clampBackoff) (clampEntry m (setThrottle m t s)) :=
  notice_eq_offer ((clampEntry_throttle ..).trans (setThrottle_throttle m t s)) old cause

/-! ### Firings (R99, R101) -/

theorem criterionBit_eq_code (c : Criterion) : criterionBit c = criterionCode c := by
  cases c <;> rfl

theorem holdRun_eq (p : Profile) : holdRun p = 64 * holdCode p := Nat.mul_comm ..

/-- The throttle context that a firing of `c` leaves before it acts on the throttle (R99). -/
def latchedWith (c : Criterion) (t : ThrottleContext) : ThrottleContext :=
  { t with latched := t.latched ||| (1#5 <<< criterionCode c) }

theorem fire_unselected {m : ModuleId} {c : Criterion} {s : State}
    (h : (moduleAt s m).context.mask.getLsbD (criterionCode c) = false) :
    fire m c s = setThrottle m (latchedWith c (moduleAt s m).throttle) s := by
  rw [fire, hasCriterion, setThrottle_eq, moduleAt_setModuleAt_same, insertCriterion, criterionBit_eq_code]
  dsimp only
  rw [h]
  rfl

theorem fire_selected {m : ModuleId} {c : Criterion} {s : State}
    (h : (moduleAt s m).context.mask.getLsbD (criterionCode c) = true) :
    fire m c s = actOnThrottle m c (setThrottle m (latchedWith c (moduleAt s m).throttle) s) := by
  rw [fire, hasCriterion, setThrottle_eq, moduleAt_setModuleAt_same, insertCriterion, criterionBit_eq_code]
  dsimp only
  rw [h]
  rfl

/-- In UNPROFILED and LATCHED a firing does nothing more. -/
theorem actOnThrottle_idle {m : ModuleId} {s : State} (c : Criterion)
    (h : (moduleAt s m).throttle.state = .unprofiled ∨ (moduleAt s m).throttle.state = .latched) :
    actOnThrottle m c s = s := by
  unfold actOnThrottle
  dsimp only
  split
  · rfl
  · rcases h with h | h <;> rw [h]

section Profiled

variable {m : ModuleId} {s : State} {a : ActiveProfile} (ha : (moduleAt s m).active = some a)

include ha

/-- In CLAMPED a firing restarts the hold. -/
theorem actOnThrottle_clamped (c : Criterion) (h : (moduleAt s m).throttle.state = .clamped) :
    actOnThrottle m c s =
      setThrottle m { (moduleAt s m).throttle with holdTimer := some (64 * holdCode a.words) } s := by
  rw [actOnThrottle, profileOf_some ha]
  dsimp only
  rw [h, holdRun_eq]

/-- In NORMAL and RELEASING a firing is a strike. -/
theorem actOnThrottle_strikes (c : Criterion)
    (h : (moduleAt s m).throttle.state = .normal ∨ (moduleAt s m).throttle.state = .releasing) :
    actOnThrottle m c s = strike m c a.words s := by
  rw [actOnThrottle, profileOf_some ha]
  dsimp only
  rcases h with h | h <;> rw [h]

end Profiled

/-- A strike below the limit clamps. -/
theorem struck_below {p : Profile} {t : ThrottleContext} (h : t.strikes + 1 < strikeLimit p) :
    struck p t = { t with
      state := .clamped, strikes := t.strikes + 1, clampBackoff := clampBackoff p,
      holdTimer := some (64 * holdCode p) } := by
  rw [struck, if_neg (Nat.not_le.mpr h), holdRun_eq]

/-- A strike at the limit latches. -/
theorem struck_at {p : Profile} {t : ThrottleContext} (h : strikeLimit p ≤ t.strikes + 1) :
    struck p t = { t with
      state := .latched, strikes := strikeLimit p, clampBackoff := clampBackoff p, holdTimer := none } := if_pos h

theorem fire_idle {m : ModuleId} {c : Criterion} {s : State}
    (h : (moduleAt s m).throttle.state = .unprofiled ∨ (moduleAt s m).throttle.state = .latched) :
    fire m c s = setThrottle m (latchedWith c (moduleAt s m).throttle) s := by
  cases hsel : (moduleAt s m).context.mask.getLsbD (criterionCode c) with
  | false => exact fire_unselected hsel
  | true =>
    rw [fire_selected hsel]
    exact actOnThrottle_idle c (by rw [setThrottle_throttle]; exact h)

section Selected

variable {m : ModuleId} {c : Criterion} {s : State} {a : ActiveProfile} (ha : (moduleAt s m).active = some a)
  (hsel : (moduleAt s m).context.mask.getLsbD (criterionCode c) = true)

include ha hsel

theorem fire_clamped (h : (moduleAt s m).throttle.state = .clamped) :
    fire m c s = setThrottle m { latchedWith c (moduleAt s m).throttle with
      holdTimer := some (64 * holdCode a.words) } s := by
  rw [fire_selected hsel, actOnThrottle_clamped ((setThrottle_active ..).trans ha) c
    (by rw [setThrottle_throttle]; exact h), setThrottle_throttle, setThrottle_twice]

theorem fire_strikes (h : (moduleAt s m).throttle.state = .normal ∨ (moduleAt s m).throttle.state = .releasing)
    {t : ThrottleContext} (ht : struck a.words (latchedWith c (moduleAt s m).throttle) = t) :
    fire m c s = offer (.throttleNotice m (moduleAt s m).throttle.state t.state (.criterion c) t.strikes t.clampBackoff)
      (clampEntry m (setThrottle m t s)) := by
  rw [fire_selected hsel, actOnThrottle_strikes ((setThrottle_active ..).trans ha) c
    (by rw [setThrottle_throttle]; exact h), strike, setThrottle_throttle, setThrottle_twice, ht]
  exact notice_clampEntry ..

end Selected

/-- Settles O22: after the latching the mask decides whether the firing acts, and the throttle state how; a strike is
one of the two entries. -/
theorem aFiringActsByTheThrottleState : Obligations.AFiringActsByTheThrottleState := by
  intro m c s x t t1 selected
  refine ⟨fun h => ?_, fun a ha hsel => ⟨fire_clamped ha hsel, fun h => ?_⟩⟩
  · rcases h with hunselected | hidle
    · exact fire_unselected hunselected
    · exact fire_idle hidle
  · intro limit back
    exact ⟨fun hbelow => fire_strikes ha hsel h (struck_below hbelow),
      fun hat => fire_strikes ha hsel h (struck_at hat)⟩

/-! ### Hold expiries and CLEAR LATCH (R103, R107) -/

/-- A hold timer that runs, anywhere but in OFFLINE, expires. -/
theorem exec_holdExpiry_running {m : ModuleId} {s : State} (h : s.deviceState ≠ .offline)
    (ht : (moduleAt s m).throttle.holdTimer.isSome = true) :
    exec (.holdExpiry m) s = .next (expireHold m s) := if_pos ⟨h, ht⟩

/-- The droop line is asserted and module `m`'s mask selects DROOP (R103). -/
abbrev HeldByDroop (m : ModuleId) (s : State) : Prop :=
  (moduleAt s m).context.mask.getLsbD 3 = true ∧ s.droopLine = true

theorem heldByDroop_iff (m : ModuleId) (s : State) :
    (hasCriterion (moduleAt s m).context.mask .droop && s.droopLine) = true ↔ HeldByDroop m s :=
  Bool.and_eq_true_iff

theorem expireHold_held {m : ModuleId} {s : State} {a : ActiveProfile} (ha : (moduleAt s m).active = some a)
    (h : HeldByDroop m s) : expireHold m s =
      setThrottle m { (moduleAt s m).throttle with holdTimer := some (64 * holdCode a.words) } s := by
  rw [expireHold, if_pos ((heldByDroop_iff m s).mpr h), profileOf_some ha, ← holdRun_eq]

theorem expireHold_releases {m : ModuleId} {s : State} (h : ¬ HeldByDroop m s) :
    let t := (moduleAt s m).throttle
    expireHold m s = offer (.throttleNotice m t.state .releasing .holdExpiry t.strikes t.clampBackoff)
      (setThrottle m { t with state := .releasing, holdTimer := none } s) := by
  rw [expireHold, if_neg (mt (heldByDroop_iff m s).mp h)]
  exact notice_setThrottle ..

theorem doClearLatch_noModule {w : Word} (h : 3 < w.toNat) (s : State) :
    doClearLatch [w] s = answered 0x000C .range [] s := by
  simp only [doClearLatch, wordModule_of_gt h]
  rfl

theorem doClearLatch_latched {w : Word} {m : ModuleId} {s : State} (hm : w.toNat = m.val)
    (h : (moduleAt s m).throttle.state = .latched) :
    let t := (moduleAt s m).throttle
    doClearLatch [w] s = answered 0x000C .done [w]
      (offer (.throttleNotice m .latched .releasing .clearLatch 0 t.clampBackoff)
        (setThrottle m { t with state := .releasing, strikes := 0 } s)) := by
  simp only [doClearLatch, wordModule_of_eq hm, h, if_true, notice_setThrottle]
  rfl

theorem doClearLatch_unlatched {w : Word} {m : ModuleId} {s : State} (hm : w.toNat = m.val)
    (h : (moduleAt s m).throttle.state ≠ .latched) : doClearLatch [w] s = answered 0x000C .state [] s := by
  simp only [doClearLatch, wordModule_of_eq hm, if_neg h]
  rfl

/-- Settles O25: CLEAR LATCH is executed, and acts by its module's throttle state; a hold expiry acts by the droop line
and the mask. -/
theorem aClampIsReleasedByItsHoldOrByClearLatch : Obligations.AClampIsReleasedByItsHoldOrByClearLatch := by
  intro s
  have executed (w : Word) (h : Executing s) : exec (.clearLatch [w]) s = .next (doClearLatch [w] s) := by
    obtain ⟨⟨⟨hon, hout, hwait⟩, hqueue⟩, hstate, hlong⟩ := h
    exact exec_clearLatch_executed hon hout hwait hqueue hstate hlong w
  refine ⟨fun w hex hgt => ?_, fun m => ⟨fun w hex hm => ⟨fun hlatched => ?_, fun hother => ?_⟩,
    fun a hon ha hclamped hruns => ⟨fun hheld => ?_, fun hfree => ?_⟩⟩⟩
  · rw [executed w hex, doClearLatch_noModule hgt]
  · rw [executed w hex, doClearLatch_latched hm hlatched]
  · rw [executed w hex, doClearLatch_unlatched hm hother]
  · rw [exec_holdExpiry_running hon hruns, expireHold_held ha hheld]
  · rw [exec_holdExpiry_running hon hruns, expireHold_releases hfree, hclamped]

/-! ### The completion of a commit (R28, R47, R106, R130) -/

/-- The grade that the commit's completion evaluates is R130's. -/
theorem committedGrade_committed (m : ModuleId) (s : State) :
    CommittedGrade m (committedGrade s.shadow (moduleAt s m).context) s := by
  refine ⟨fun hother => ?_, fun f hfresh hf => ?_⟩
  · unfold committedGrade
    split
    · next hfresh _ => exact absurd hfresh hother
    · rfl
  · simp only [committedGrade, hfresh, hf]
    exact risingGrade_highest ..

theorem putInForce_eq_profileInForce (m : ModuleId) (check : CheckValue) (s : State) :
    putInForce m ⟨s.shadow, check⟩ s =
      profileInForce m check (committedGrade s.shadow (moduleAt s m).context) s := by
  rw [putInForce, profileInForce, gradeEnergy, energyGradeOf_eq_length]

/-- A commit that passes: the profile in force, then the throttle's part, then the end of the commit and its answer. -/
theorem exec_commitCompletion_passed {m : ModuleId} {check : CheckValue} {s : State}
    (hl : s.longCommand = .commit m check) (hp : commitFailure s.shadow check = none) :
    exec .commitCompletion s = .next (commitDone m (throttleTakesCommit m s.shadow
      (profileInForce m check (committedGrade s.shadow (moduleAt s m).context) s))) := by
  have hexec : exec .commitCompletion s = .next (completeCommit m check s) := by
    show execCommitCompletion s = _
    rw [execCommitCompletion, hl]
  rw [hexec, completeCommit, hp, putInForce_eq_profileInForce]
  rfl

section Committed

variable {m : ModuleId} {s : State} (p : Profile)

/-- A module within a clamp whose strikes stay below the new limit keeps its throttle (R106). -/
theorem throttleTakesCommit_keeps
    (h : (moduleAt s m).throttle.state = .clamped ∨ (moduleAt s m).throttle.state = .releasing)
    (hs : (moduleAt s m).throttle.strikes < strikeLimit p) : throttleTakesCommit m p s = s := by
  unfold throttleTakesCommit
  rcases h with h | h <;> simp only [h, if_neg (Nat.not_le.mpr hs)]

/-- A module within a clamp whose strikes reach the new limit is latched under the new clamp backoff (R106). -/
theorem throttleTakesCommit_latches
    (h : (moduleAt s m).throttle.state = .clamped ∨ (moduleAt s m).throttle.state = .releasing)
    (hs : strikeLimit p ≤ (moduleAt s m).throttle.strikes) :
    let t := (moduleAt s m).throttle
    throttleTakesCommit m p s =
      offer (.throttleNotice m t.state .latched .commit (strikeLimit p) (clampBackoff p))
        (clampEntry m (setThrottle m { t with
          state := .latched, strikes := strikeLimit p, clampBackoff := clampBackoff p, holdTimer := none } s)) := by
  unfold throttleTakesCommit
  rcases h with h | h <;> simp only [h, if_pos hs] <;> exact notice_clampEntry ..

/-- A LATCHED module keeps its state, its strikes held at the new limit (R106). -/
theorem throttleTakesCommit_latched (h : (moduleAt s m).throttle.state = .latched) :
    throttleTakesCommit m p s = setThrottle m { (moduleAt s m).throttle with
      strikes := min (moduleAt s m).throttle.strikes (strikeLimit p) } s := by
  simp only [throttleTakesCommit, h]

end Committed

theorem profileInForce_throttle (m : ModuleId) (check : CheckValue) (g : Nat) (s : State) :
    (moduleAt (profileInForce m check g s) m).throttle = (moduleAt s m).throttle := by
  rw [profileInForce, moduleAt_setModuleAt_same]

/-- Settles O40: the profile in force leaves the throttle context as it was, and the throttle's part acts by it. -/
theorem aCommitCompletionMayLatch : Obligations.ACommitCompletionMayLatch := by
  intro m check s hl hp t limit back
  refine ⟨_, committedGrade_committed m s, ?_⟩
  intro s1
  have hthrottle : (moduleAt s1 m).throttle = t := profileInForce_throttle ..
  have hexec := exec_commitCompletion_passed hl hp
  refine ⟨fun h => ⟨fun hbelow => ?_, fun hat => ?_⟩, fun hlatched => ?_⟩
  · rw [hexec, throttleTakesCommit_keeps s.shadow (by rw [hthrottle]; exact h) (by rw [hthrottle]; exact hbelow)]
  · rw [hexec, throttleTakesCommit_latches s.shadow (by rw [hthrottle]; exact h) (by rw [hthrottle]; exact hat),
      hthrottle]
  · rw [hexec, throttleTakesCommit_latched s.shadow (by rw [hthrottle]; exact hlatched), hthrottle]

end Sys2Proof.Machine
end

section
/-! ### A clamp entry (R65, R105) -/

namespace Sys2Proof.Machine

open Sys2Proof.Claim

/-! ### One path at a clamp entry -/

/-- The burst that a clamp entry on `m` lowers, on a path with context `c` under clamp backoff `back`: granted above its
requested level less that backoff. -/
def clampTarget (m : ModuleId) (back : Nat) (c : PathContext) : Option BurstRecord :=
  match c.burst with
  | some b =>
    match b.granted with
    | .code g => if c.moduleId = m ∧ b.requested - back < g then some b else none
    | .off => none
  | none => none

theorem clampTarget_some {m : ModuleId} {back : Nat} {c : PathContext} {b : BurstRecord}
    (h : clampTarget m back c = some b) : c.burst = some b ∧ c.moduleId = m ∧ ∃ g, b.granted = .code g := by
  unfold clampTarget at h
  split at h
  · next b' hb =>
    split at h
    · next g hg =>
      split at h
      · next hc =>
        cases h
        exact ⟨hb, hc.1, g, hg⟩
      · exact nomatch h
    · exact nomatch h
  · exact nomatch h

/-- A path's turn in a clamp entry: its target, if it has one, is lowered to its clamp limit. -/
theorem clampPath_eq_lowered (m : ModuleId) (p : PathId) (s : State) : clampPath m p s =
    match clampTarget m (moduleAt s m).throttle.clampBackoff (pathAt s p) with
    | some b => lowered p b (b.requested - (moduleAt s m).throttle.clampBackoff) s
    | none => s := by
  unfold clampPath clampTarget
  cases hb : (pathAt s p).burst with
  | none => rfl
  | some b =>
    dsimp only
    cases b.granted with
    | off => rfl
    | code g =>
      dsimp only
      rw [lowerBurst_eq_lowered hb]
      split <;> rfl

theorem clampPath_targeted {m : ModuleId} {p : PathId} {s : State} {b : BurstRecord}
    (h : clampTarget m (moduleAt s m).throttle.clampBackoff (pathAt s p) = some b) :
    clampPath m p s = lowered p b (b.requested - (moduleAt s m).throttle.clampBackoff) s := by
  rw [clampPath_eq_lowered, h]

theorem clampPath_untargeted {m : ModuleId} {p : PathId} {s : State}
    (h : clampTarget m (moduleAt s m).throttle.clampBackoff (pathAt s p) = none) : clampPath m p s = s := by
  rw [clampPath_eq_lowered, h]

/-- What a path's turn makes of its context, with `x` held for the module. -/
def clampedPath (mode : CounterMode) (m : ModuleId) (x : ModuleState) (c : PathContext) : PathContext :=
  match clampTarget m x.throttle.clampBackoff c with
  | some b => loweredPath mode x c b (b.requested - x.throttle.clampBackoff)
  | none => c

/-- The LEVEL STEP that a path's turn inserts, if it lowers a burst. -/
def clampMarker (m : ModuleId) (x : ModuleState) (p : PathId) (c : PathContext) : Option Frame :=
  (clampTarget m x.throttle.clampBackoff c).map fun b =>
    levelStepFrame p 0 (BitVec.ofNat 16 (b.requested - x.throttle.clampBackoff))

theorem clampPath_path (m : ModuleId) (p : PathId) (s : State) :
    pathAt (clampPath m p s) p = clampedPath s.counterMode m (moduleAt s m) (pathAt s p) := by
  unfold clampedPath
  cases h : clampTarget m (moduleAt s m).throttle.clampBackoff (pathAt s p) with
  | none => rw [clampPath_untargeted h]
  | some b =>
    obtain ⟨-, hm, -⟩ := clampTarget_some h
    rw [clampPath_targeted h, lowered, pathAt_setPathAt_same, hm]

theorem clampPath_output (m : ModuleId) (p : PathId) (s : State) :
    (clampPath m p s).forwardOutput =
      s.forwardOutput ++ (clampMarker m (moduleAt s m) p (pathAt s p)).toList := by
  unfold clampMarker
  cases h : clampTarget m (moduleAt s m).throttle.clampBackoff (pathAt s p) with
  | none =>
    rw [clampPath_untargeted h]
    exact (List.append_nil _).symm
  | some b =>
    rw [clampPath_targeted h]
    rfl

/-- A turn does not change what a later one reads of the module and of the counter mode. -/
theorem KeepsButInFlight.clampedPath {x y : ModuleState} (h : KeepsButInFlight x y) (mode : CounterMode)
    (m : ModuleId) (c : PathContext) :
    Machine.clampedPath mode m y c = Machine.clampedPath mode m x c := by
  rw [h]
  rfl

theorem KeepsButInFlight.clampMarker {x y : ModuleState} (h : KeepsButInFlight x y) (m : ModuleId) (p : PathId)
    (c : PathContext) : Machine.clampMarker m y p c = Machine.clampMarker m x p c := by
  rw [h]
  rfl

theorem clampPath_counterMode (m : ModuleId) (p : PathId) (s : State) :
    (clampPath m p s).counterMode = s.counterMode := by
  rw [clampPath_writes m p s]

/-! ### The turns of all paths -/

theorem foldl_clampPath_path (m : ModuleId) (q : PathId) : ∀ (ps : List PathId) (s : State), ps.Nodup →
    pathAt (ps.foldl (fun s p => clampPath m p s) s) q =
      if q ∈ ps then clampedPath s.counterMode m (moduleAt s m) (pathAt s q) else pathAt s q
  | [], _, _ => rfl
  | p :: ps, s, hnodup => by
    obtain ⟨hp, hps⟩ := List.nodup_cons.mp hnodup
    have rest := foldl_clampPath_path m q ps (clampPath m p s) hps
    rw [clampPath_counterMode, (clampPath_module m p s m).clampedPath] at rest
    rw [List.foldl_cons, rest]
    by_cases hq : q = p
    · subst hq
      rw [if_neg hp, if_pos (List.mem_cons_self ..), clampPath_path]
    · simp only [clampPath_otherPath hq, List.mem_cons, hq, false_or]

theorem foldl_clampPath_output (m : ModuleId) : ∀ (ps : List PathId) (s : State), ps.Nodup →
    (ps.foldl (fun s p => clampPath m p s) s).forwardOutput =
      s.forwardOutput ++ ps.filterMap fun q => clampMarker m (moduleAt s m) q (pathAt s q)
  | [], _, _ => (List.append_nil _).symm
  | p :: ps, s, hnodup => by
    obtain ⟨hp, hps⟩ := List.nodup_cons.mp hnodup
    have later : (ps.filterMap fun q => clampMarker m (moduleAt (clampPath m p s) m) q (pathAt (clampPath m p s) q)) =
        ps.filterMap fun q => clampMarker m (moduleAt s m) q (pathAt s q) := by
      refine List.filterMap_congr fun q hq => ?_
      have hqp : q ≠ p := fun e => hp (e ▸ hq)
      rw [(clampPath_module m p s m).clampMarker, clampPath_otherPath hqp]
    rw [List.foldl_cons, foldl_clampPath_output m ps _ hps, later, clampPath_output, List.append_assoc]
    rw [List.filterMap_cons]
    cases clampMarker m (moduleAt s m) p (pathAt s p) <;> rfl

theorem clampEntry_path (m : ModuleId) (s : State) (q : PathId) :
    pathAt (clampEntry m s) q = clampedPath s.counterMode m (moduleAt s m) (pathAt s q) :=
  (foldl_clampPath_path m q allPaths s (by decide)).trans (if_pos (mem_allPaths q))

theorem clampEntry_output (m : ModuleId) (s : State) : (clampEntry m s).forwardOutput =
    s.forwardOutput ++ allPaths.filterMap fun q => clampMarker m (moduleAt s m) q (pathAt s q) :=
  foldl_clampPath_output m allPaths s (by decide)

/-! ### The weight in flight (R91, R92) -/

/-- A granted burst's lowering moves its module's weight in flight by what the path then holds more or less; the frames
to come stand. Whether the records are lawful does not matter. -/
theorem lowered_accountsExact {s : State} (hs : AccountsExact s) {p : PathId} {b : BurstRecord} {g : Nat}
    (hb : (pathAt s p).burst = some b) (hg : b.granted = .code g) (n : Nat) : AccountsExact (lowered p b n s) := by
  intro m
  obtain ⟨hweights, hframes⟩ := hs m
  have hpath : pathAt (lowered p b n s) p =
      loweredPath s.counterMode (moduleAt s (pathAt s p).moduleId) (pathAt s p) b n := pathAt_setPathAt_same ..
  have hother : ∀ q, q ≠ p → pathAt (lowered p b n s) q = pathAt s q := fun q hq => pathAt_setPathAt_other hq ..
  have hsteady : framesToCome (pathAt (lowered p b n s) p) m = framesToCome (pathAt s p) m := by
    rw [hpath]
    simp only [framesToCome, loweredPath, hb, hg]
  have movedWeights := sum_paths_moves (f := fun q => weightHeld (pathAt s q) m)
    (g := fun q => weightHeld (pathAt (lowered p b n s) q) m) fun q hq => by rw [hother q hq]
  have movedFrames := sum_paths_moves (f := fun q => framesToCome (pathAt s q) m)
    (g := fun q => framesToCome (pathAt (lowered p b n s) q) m) fun q hq => by rw [hother q hq]
  rw [hsteady] at movedFrames
  by_cases hm : m = (pathAt s p).moduleId
  · subst hm
    have held : weightHeld (pathAt s p) (pathAt s p).moduleId = b.weight := weightHeld_burst hb
    have holds : weightHeld (pathAt (lowered p b n s) p) (pathAt s p).moduleId =
        weightFor (moduleAt s (pathAt s p).moduleId) n := by
      rw [hpath]
      exact weightHeld_burst (c := loweredPath s.counterMode (moduleAt s (pathAt s p).moduleId) (pathAt s p) b n) rfl
    have hmodule : (moduleAt (lowered p b n s) (pathAt s p).moduleId).accounts =
        { (moduleAt s (pathAt s p).moduleId).accounts with
          inFlight := (moduleAt s (pathAt s p).moduleId).accounts.inFlight +
            weightFor (moduleAt s (pathAt s p).moduleId) n - b.weight } := by
      rw [lowered, moduleAt_setPathAt, moduleAt_setModuleAt_same]
    rw [held, holds] at movedWeights
    rw [hmodule]
    dsimp only
    constructor <;> omega
  · have hs' : (pathAt s p).moduleId ≠ m := Ne.symm hm
    have ht' : (pathAt (lowered p b n s) p).moduleId ≠ m := by rw [hpath]; exact hs'
    have hmodule : moduleAt (lowered p b n s) m = moduleAt s m := moduleAt_setModuleAt_other hm ..
    rw [weightHeld_otherModule hs', weightHeld_otherModule ht'] at movedWeights
    rw [hmodule]
    constructor <;> omega

theorem clampPath_accountsExact {s : State} (hs : AccountsExact s) (m : ModuleId) (p : PathId) :
    AccountsExact (clampPath m p s) := by
  cases h : clampTarget m (moduleAt s m).throttle.clampBackoff (pathAt s p) with
  | none => rwa [clampPath_untargeted h]
  | some b =>
    obtain ⟨hb, -, g, hg⟩ := clampTarget_some h
    rw [clampPath_targeted h]
    exact lowered_accountsExact hs hb hg _

theorem clampEntry_accountsExact {s : State} (hs : AccountsExact s) (m : ModuleId) :
    AccountsExact (clampEntry m s) := by
  unfold clampEntry
  generalize allPaths = ps
  induction ps generalizing s with
  | nil => exact hs
  | cons p ps ih => exact ih (clampPath_accountsExact hs m p)

/-- Settles O23: each path has one turn, which reads its own context and what no turn changes of the module; a target
is lowered, and its module's weight in flight follows. -/
theorem aClampEntryLowersBurstsAboveTheirLimit : Obligations.AClampEntryLowersBurstsAboveTheirLimit := by
  intro m s x limit hit t
  have ht : t = clampEntry m s := rfl
  -- Left as a `let`, `t` would be unfolded to the whole entry when the proof term is made.
  clear_value t
  have htarget (q : PathId) : hit q = clampTarget m x.throttle.clampBackoff (pathAt s q) := rfl
  rw [ht]
  refine ⟨clampEntry_writes m s, fun q => ?_, ?_, fun n hn => clampEntry_otherModule hn s, clampEntry_module m s m,
    fun hs => clampEntry_accountsExact hs m⟩
  · rw [htarget]
    exact clampEntry_path m s q
  · simp only [htarget]
    exact clampEntry_output m s

end Sys2Proof.Machine
end

section
/-! ### The throttle law of one module, and the acts that keep it (R97) -/

namespace Sys2Proof.Machine

/-! ### The law -/

/-- The throttle contexts that a module with this profile may have, state by state (R97). -/
inductive ThrottleLaw : Option ActiveProfile → ThrottleContext → Prop
  | unprofiled (latched : CriteriaSet) : ThrottleLaw none ⟨.unprofiled, 0, none, 0, latched⟩
  | normal (a : ActiveProfile) (latched : CriteriaSet) : ThrottleLaw (some a) ⟨.normal, 0, none, 0, latched⟩
  | clamped (a : ActiveProfile) {back hold strikes : Nat} (latched : CriteriaSet) (hback : back ≤ 127)
      (hstrikes : strikes < strikeLimit a.words) : ThrottleLaw (some a) ⟨.clamped, back, some hold, strikes, latched⟩
  | releasing (a : ActiveProfile) {back strikes : Nat} (latched : CriteriaSet) (hback : back ≤ 127)
      (hstrikes : strikes < strikeLimit a.words) : ThrottleLaw (some a) ⟨.releasing, back, none, strikes, latched⟩
  | latched (a : ActiveProfile) {back strikes : Nat} (latched : CriteriaSet) (hback : back ≤ 127)
      (hstrikes : strikes ≤ strikeLimit a.words) : ThrottleLaw (some a) ⟨.latched, back, none, strikes, latched⟩

/-- The law for what the part holds for a module. -/
abbrev ThrottleWithin (x : ModuleState) : Prop := ThrottleLaw x.active x.throttle

theorem throttleLawful_of_within {x : ModuleState} (h : ThrottleWithin x) : throttleLawful x = true := by
  obtain ⟨context, ring, throttle, accounts, active, scrub⟩ := x
  cases h with
  | unprofiled => rfl
  | normal => rfl
  | clamped _ _ hback hstrikes => simp [throttleLawful, hback, hstrikes]
  | releasing _ _ hback hstrikes => simp [throttleLawful, hback, hstrikes]
  | latched _ _ hback hstrikes => simp [throttleLawful, hback, hstrikes]

theorem within_of_throttleLawful {x : ModuleState} (h : throttleLawful x = true) : ThrottleWithin x := by
  obtain ⟨context, ring, ⟨state, back, hold, strikes, latched⟩, accounts, active, scrub⟩ := x
  cases active with
  | none =>
    simp only [throttleLawful, Bool.and_eq_true, beq_iff_eq] at h
    obtain ⟨-, ⟨⟨rfl, rfl⟩, rfl⟩, rfl⟩ := h
    exact .unprofiled latched
  | some a =>
    cases state <;> simp only [throttleLawful, Bool.and_eq_true, beq_iff_eq, decide_eq_true_eq] at h
    case unprofiled => exact absurd h.2 Bool.false_ne_true
    case normal =>
      obtain ⟨-, ⟨rfl, rfl⟩, rfl⟩ := h
      exact .normal a latched
    case clamped =>
      obtain ⟨hback, hruns, hstrikes⟩ := h
      obtain ⟨n, rfl⟩ := Option.isSome_iff_exists.mp hruns
      exact .clamped a latched hback hstrikes
    case releasing =>
      obtain ⟨hback, rfl, hstrikes⟩ := h
      exact .releasing a latched hback hstrikes
    case latched =>
      obtain ⟨hback, rfl, hstrikes⟩ := h
      exact .latched a latched hback hstrikes

theorem throttlesLawful_iff (s : State) : ThrottlesLawful s ↔ ∀ m, ThrottleWithin (moduleAt s m) :=
  forall_congr' fun _ => ⟨within_of_throttleLawful, throttleLawful_of_within⟩

/-! ### The fields of a profile that bound a context (R14) -/

theorem strikeLimit_pos (p : Profile) : 0 < strikeLimit p := Nat.lt_of_lt_of_le Nat.zero_lt_one (Nat.le_max_left ..)

theorem clampBackoff_le (p : Profile) : clampBackoff p ≤ 127 := Nat.min_le_right ..

/-! ### The acts of the Throttle Unit (R99 to R107) -/

section Acts

variable {o : Option ActiveProfile} {t : ThrottleContext} (h : ThrottleLaw o t)

include h

theorem ThrottleLaw.withLatched (l : CriteriaSet) : ThrottleLaw o { t with latched := l } := by
  cases h with
  | unprofiled => exact .unprofiled l
  | normal a => exact .normal a l
  | clamped a _ hback hstrikes => exact .clamped a l hback hstrikes
  | releasing a _ hback hstrikes => exact .releasing a l hback hstrikes
  | latched a _ hback hstrikes => exact .latched a l hback hstrikes

/-- The hold timer runs in CLAMPED only (R102). -/
theorem ThrottleLaw.clamped_of_running (hr : t.holdTimer.isSome = true) : t.state = .clamped := by
  cases h with
  | clamped => rfl
  | unprofiled => exact nomatch hr
  | normal => exact nomatch hr
  | releasing => exact nomatch hr
  | latched => exact nomatch hr

/-- A CLAMPED module's hold timer is set (R101, R103). -/
theorem ThrottleLaw.withHold (hc : t.state = .clamped) (n : Nat) : ThrottleLaw o { t with holdTimer := some n } := by
  cases h with
  | clamped a l hback hstrikes => exact .clamped a l hback hstrikes
  | _ => exact nomatch hc

/-- A CLAMPED module becomes RELEASING (R103). -/
theorem ThrottleLaw.holdExpired (hc : t.state = .clamped) :
    ThrottleLaw o { t with state := .releasing, holdTimer := none } := by
  cases h with
  | clamped a l hback hstrikes => exact .releasing a l hback hstrikes
  | _ => exact nomatch hc

/-- A RELEASING module's clamp backoff falls (R104). -/
theorem ThrottleLaw.backoffStepped (hr : t.state = .releasing) (n : Nat) :
    ThrottleLaw o { t with clampBackoff := t.clampBackoff - n } := by
  cases h with
  | releasing a l hback hstrikes => exact .releasing a l ((Nat.sub_le ..).trans hback) hstrikes
  | _ => exact nomatch hr

/-- A RELEASING module becomes NORMAL (R104). -/
theorem ThrottleLaw.released (hr : t.state = .releasing) :
    ThrottleLaw o { t with state := .normal, clampBackoff := 0, strikes := 0 } := by
  cases h with
  | releasing a l => exact .normal a l
  | _ => exact nomatch hr

/-- CLEAR LATCH: a LATCHED module becomes RELEASING (R107). -/
theorem ThrottleLaw.latchCleared (hl : t.state = .latched) :
    ThrottleLaw o { t with state := .releasing, strikes := 0 } := by
  cases h with
  | latched a l hback => exact .releasing a l hback (strikeLimit_pos _)
  | _ => exact nomatch hl

theorem ThrottleLaw.ticked : ThrottleLaw o { t with holdTimer := t.holdTimer.map (· - 1) } := by
  cases h with
  | clamped a l hback hstrikes => exact .clamped a l hback hstrikes
  | unprofiled l => exact .unprofiled l
  | normal a l => exact .normal a l
  | releasing a l hback hstrikes => exact .releasing a l hback hstrikes
  | latched a l hback hstrikes => exact .latched a l hback hstrikes

end Acts

/-- A strike's entry is within the law, whatever the module's context was (R101). -/
theorem ThrottleLaw.ofStruck (a : ActiveProfile) (t : ThrottleContext) : ThrottleLaw (some a) (struck a.words t) := by
  rcases Nat.lt_or_ge (t.strikes + 1) (strikeLimit a.words) with hbelow | hat
  · rw [struck_below hbelow]
    exact .clamped a _ (clampBackoff_le _) hbelow
  · rw [struck_at hat]
    exact .latched a _ (clampBackoff_le _) (Nat.le_refl _)

/-! ### The completion of a commit (R106) -/

/-- The throttle context that a commit of profile `p` leaves. -/
def throttleAfterCommit (p : Profile) (t : ThrottleContext) : ThrottleContext :=
  match t.state with
  | .unprofiled => { t with state := .normal, clampBackoff := 0, strikes := 0, holdTimer := none }
  | .normal => t
  | .clamped | .releasing =>
    if strikeLimit p ≤ t.strikes then
      { t with state := .latched, strikes := strikeLimit p, clampBackoff := clampBackoff p, holdTimer := none }
    else t
  | .latched => { t with strikes := min t.strikes (strikeLimit p) }

theorem throttleTakesCommit_throttle (m : ModuleId) (p : Profile) (s : State) :
    (moduleAt (throttleTakesCommit m p s) m).throttle = throttleAfterCommit p (moduleAt s m).throttle := by
  have clamping (h : (moduleAt s m).throttle.state = .clamped ∨ (moduleAt s m).throttle.state = .releasing) :
      (moduleAt (throttleTakesCommit m p s) m).throttle = throttleAfterCommit p (moduleAt s m).throttle := by
    rcases Nat.lt_or_ge (moduleAt s m).throttle.strikes (strikeLimit p) with hbelow | hat
    · rw [throttleTakesCommit_keeps p h hbelow]
      rcases h with h | h <;> simp only [throttleAfterCommit, h, if_neg (Nat.not_le.mpr hbelow)]
    · rw [throttleTakesCommit_latches p h hat, moduleAt_offer, clampEntry_throttle, setThrottle_throttle]
      rcases h with h | h <;> simp only [throttleAfterCommit, h, if_pos hat]
  cases h : (moduleAt s m).throttle.state with
  | unprofiled => simp only [throttleTakesCommit, throttleAfterCommit, h, moduleAt_notice, setThrottle_throttle]
  | normal => simp only [throttleTakesCommit, throttleAfterCommit, h]
  | clamped => exact clamping (.inl h)
  | releasing => exact clamping (.inr h)
  | latched => simp only [throttleTakesCommit_latched p h, setThrottle_throttle, throttleAfterCommit, h]

/-- A context within the law of the profile before is, after the commit, within that of the new one. -/
theorem ThrottleLaw.afterCommit {o : Option ActiveProfile} {t : ThrottleContext} (h : ThrottleLaw o t)
    (a : ActiveProfile) : ThrottleLaw (some a) (throttleAfterCommit a.words t) := by
  cases h with
  | unprofiled l => exact .normal a l
  | normal _ l => exact .normal a l
  | clamped _ l hback _ =>
    dsimp only [throttleAfterCommit]
    split
    · exact .latched a l (clampBackoff_le _) (Nat.le_refl _)
    · next hbelow => exact .clamped a l hback (Nat.not_le.mp hbelow)
  | releasing _ l hback _ =>
    dsimp only [throttleAfterCommit]
    split
    · exact .latched a l (clampBackoff_le _) (Nat.le_refl _)
    · next hbelow => exact .releasing a l hback (Nat.not_le.mp hbelow)
  | latched _ l hback _ => exact .latched a l hback (Nat.min_le_right ..)

theorem reset_throttleWithin (m : ModuleId) : ThrottleWithin (moduleAt State.reset m) := by
  revert m
  rw [← throttlesLawful_iff]
  decide

end Sys2Proof.Machine
end

section
/-! ### The throttle law: every step keeps it (R97) -/

namespace Sys2Proof.Machine

/-- Whatever module is within the throttle law before is within it after. -/
structure KeepsThrottles (s t : State) : Prop where
  module : ∀ m, ThrottleWithin (moduleAt s m) → ThrottleWithin (moduleAt t m)

theorem KeepsThrottles.refl (s : State) : KeepsThrottles s s := ⟨fun _ => id⟩

theorem KeepsThrottles.trans {s t u : State} (h1 : KeepsThrottles s t) (h2 : KeepsThrottles t u) :
    KeepsThrottles s u := ⟨fun m => h2.module m ∘ h1.module m⟩

/-- An update that leaves the modules alone. -/
theorem KeepsThrottles.of_modules {s t : State} (h : t.modules = s.modules) : KeepsThrottles s t := by
  refine ⟨fun m => ?_⟩
  simp only [moduleAt, h]
  exact id

/-- An update that leaves of each module at least its profile and its throttle context. -/
theorem KeepsThrottles.of_same {s t : State} (hactive : ∀ m, (moduleAt t m).active = (moduleAt s m).active)
    (hthrottle : ∀ m, (moduleAt t m).throttle = (moduleAt s m).throttle) : KeepsThrottles s t := by
  refine ⟨fun m h => ?_⟩
  rw [ThrottleWithin, hactive, hthrottle]
  exact h

theorem foldl_keepsThrottles {α : Type} {f : State → α → State} (h : ∀ s a, KeepsThrottles s (f s a)) (l : List α)
    (s : State) : KeepsThrottles s (l.foldl f s) := by
  induction l generalizing s with
  | nil => exact .refl s
  | cons a l ih => exact (h s a).trans (ih (f s a))

theorem ite_keepsThrottles {s t u : State} {b : Prop} [Decidable b] (ht : b → KeepsThrottles s t)
    (hu : ¬ b → KeepsThrottles s u) : KeepsThrottles s (if b then t else u) := by
  split
  · next h => exact ht h
  · next h => exact hu h

/-! ### The updates of the state -/

theorem setModuleAt_keepsThrottles {m : ModuleId} {x : ModuleState} {s : State}
    (h : ThrottleWithin (moduleAt s m) → ThrottleWithin x) : KeepsThrottles s (setModuleAt m x s) := by
  refine ⟨fun n hn => ?_⟩
  rw [moduleAt_setModuleAt]
  split
  · next e => exact h (e ▸ hn)
  · exact hn

theorem setContext_keepsThrottles (m : ModuleId) (x : ModuleContext) (s : State) :
    KeepsThrottles s (setContext m x s) := setModuleAt_keepsThrottles id

theorem setRing_keepsThrottles (m : ModuleId) (x : Ring) (s : State) : KeepsThrottles s (setRing m x s) :=
  setModuleAt_keepsThrottles id

theorem setAccounts_keepsThrottles (m : ModuleId) (x : Accounts) (s : State) :
    KeepsThrottles s (setAccounts m x s) := setModuleAt_keepsThrottles id

theorem setScrub_keepsThrottles (m : ModuleId) (x : Bool) (s : State) : KeepsThrottles s (setScrub m x s) :=
  setModuleAt_keepsThrottles id

/-- A throttle context is written that is within the law if the one before is. -/
theorem setThrottle_keepsThrottles {m : ModuleId} {t : ThrottleContext} {s : State}
    (h : ThrottleWithin (moduleAt s m) → ThrottleLaw (moduleAt s m).active t) : KeepsThrottles s (setThrottle m t s) :=
  setModuleAt_keepsThrottles h

theorem setPathAt_keepsThrottles (p : PathId) (x : PathContext) (s : State) : KeepsThrottles s (setPathAt p x s) :=
  .of_modules rfl

theorem send_keepsThrottles (f : Frame) (s : State) : KeepsThrottles s (send f s) := .of_modules rfl

theorem addCondition_keepsThrottles (c : Condition) (s : State) : KeepsThrottles s (addCondition c s) :=
  .of_modules rfl

theorem offer_keepsThrottles (r : Report) (s : State) : KeepsThrottles s (offer r s) :=
  .of_modules (offer_modules r s)

theorem enterBuffer_keepsThrottles (f : Frame) (s : State) : KeepsThrottles s (enterBuffer f s) := by
  unfold enterBuffer
  refine ite_keepsThrottles (fun _ => ?_) fun _ => addCondition_keepsThrottles ..
  rw [chooseIfIdle_writes]
  exact .of_modules rfl

/-! ### Bursts (chapters 4 and 5) -/

theorem KeepsThrottles.of_inFlight {s t : State} (h : ∀ m, KeepsButInFlight (moduleAt s m) (moduleAt t m)) :
    KeepsThrottles s t := .of_same (fun m => by rw [h m]) fun m => by rw [h m]

theorem leaveAccounts_keepsThrottles (m : ModuleId) (b : BurstRecord) (s : State) :
    KeepsThrottles s (leaveAccounts m b s) := by
  unfold leaveAccounts
  split
  · exact .refl s
  · exact setAccounts_keepsThrottles ..

theorem truncateBurst_keepsThrottles (p : PathId) (s : State) : KeepsThrottles s (truncateBurst p s) := by
  unfold truncateBurst
  split
  · exact .refl s
  · exact (leaveAccounts_keepsThrottles ..).trans (.of_modules rfl)

/-- An admission touches the modules by a pre-emption only. -/
theorem decideAdmission_keepsThrottles (p : PathId) (length r : Nat) (s : State) :
    KeepsThrottles s (decideAdmission p length r s).2 := by
  rcases decideAdmission_state p length r s with h | h
  · rw [h]
    exact .refl s
  · rw [h]
    exact .of_inFlight (preempt_module _ s)

theorem openBurst_keepsThrottles (p : PathId) (length r : Nat) (s : State) :
    KeepsThrottles s (openBurst p length r s).2 := by
  have joined (m : ModuleId) (d : Decision) (u : State) : KeepsThrottles u (joinAccounts m d length u) := by
    unfold joinAccounts
    split
    · exact .refl u
    · exact setAccounts_keepsThrottles ..
  have reported (d : Decision) (u : State) : KeepsThrottles u (reportVerdict p d length r u) :=
    ite_keepsThrottles (fun _ => offer_keepsThrottles ..) fun _ => .refl u
  exact (((decideAdmission_keepsThrottles p length r s).trans (joined ..)).trans (reported ..)).trans (.of_modules rfl)

theorem takeBurstOpen_keepsThrottles (p : PathId) (spare : BitVec 9) (declared level : Word) (s : State) :
    KeepsThrottles s (takeBurstOpen p spare declared level s) := by
  have truncated := truncateBurst_keepsThrottles p s
  unfold takeBurstOpen
  dsimp only
  split
  · exact truncated.trans (send_keepsThrottles ..)
  · exact (truncated.trans (openBurst_keepsThrottles ..)).trans (send_keepsThrottles ..)

theorem takeSample_keepsThrottles (p : PathId) (f : Frame) (position : Nat) (s : State) :
    KeepsThrottles s (takeSample p f position s) := by
  have dropped : KeepsThrottles s (dropFrame p s) := .of_modules rfl
  unfold takeSample
  split
  · exact dropped
  · split
    · exact dropped
    · refine ite_keepsThrottles (fun _ => ?_) fun _ => dropped
      exact (((send_keepsThrottles f s).trans (setRing_keepsThrottles ..)).trans (setAccounts_keepsThrottles ..)).trans
        (.of_modules rfl)

theorem takeLevelStep_keepsThrottles (p : PathId) (spare : BitVec 9) (level : Word) (s : State) :
    KeepsThrottles s (takeLevelStep p spare level s) := by
  unfold takeLevelStep
  split
  · exact .of_modules rfl
  · split
    · exact send_keepsThrottles ..
    · exact (setAccounts_keepsThrottles ..).trans (.of_modules rfl)

theorem takeBurstClose_keepsThrottles (p : PathId) (spare : BitVec 9) (s : State) :
    KeepsThrottles s (takeBurstClose p spare s) := by
  unfold takeBurstClose
  split
  · exact .of_modules rfl
  · exact (leaveAccounts_keepsThrottles ..).trans (.of_modules rfl)

/-! ### The Throttle Unit (chapter 6) -/

theorem notice_keepsThrottles (m : ModuleId) (old : ThrottleState) (cause : NoticeCause) (s : State) :
    KeepsThrottles s (notice m old cause s) := by
  unfold notice
  exact offer_keepsThrottles ..

theorem clampEntry_keepsThrottles (m : ModuleId) (s : State) : KeepsThrottles s (clampEntry m s) :=
  .of_inFlight (clampEntry_module m s)

theorem strike_keepsThrottles {m : ModuleId} {a : ActiveProfile} {s : State} (ha : (moduleAt s m).active = some a)
    (c : Criterion) : KeepsThrottles s (strike m c a.words s) := by
  unfold strike
  refine ((setThrottle_keepsThrottles fun _ => ?_).trans (clampEntry_keepsThrottles ..)).trans
    (notice_keepsThrottles ..)
  rw [ha]
  exact .ofStruck a _

theorem actOnThrottle_keepsThrottles (m : ModuleId) (c : Criterion) (s : State) :
    KeepsThrottles s (actOnThrottle m c s) := by
  cases ha : (moduleAt s m).active with
  | none =>
    rw [actOnThrottle, profileOf_none ha]
    exact .refl s
  | some a =>
    cases hstate : (moduleAt s m).throttle.state with
    | unprofiled => rw [actOnThrottle_idle c (.inl hstate)]; exact .refl s
    | latched => rw [actOnThrottle_idle c (.inr hstate)]; exact .refl s
    | clamped =>
      rw [actOnThrottle_clamped ha c hstate]
      exact setThrottle_keepsThrottles fun h => h.withHold hstate _
    | normal => rw [actOnThrottle_strikes ha c (.inl hstate)]; exact strike_keepsThrottles ha c
    | releasing => rw [actOnThrottle_strikes ha c (.inr hstate)]; exact strike_keepsThrottles ha c

theorem fire_keepsThrottles (m : ModuleId) (c : Criterion) (s : State) : KeepsThrottles s (fire m c s) := by
  have latching (l : CriteriaSet) : KeepsThrottles s (setThrottle m { (moduleAt s m).throttle with latched := l } s) :=
    setThrottle_keepsThrottles fun h => h.withLatched l
  exact ite_keepsThrottles (fun _ => (latching _).trans (actOnThrottle_keepsThrottles ..)) fun _ => latching _

/-- What is written keeps the law, and so it does with a firing after it. -/
theorem thenFire_keepsThrottles {m : ModuleId} {c : Criterion} {fires : Prop} [Decidable fires] {s u : State}
    (h : KeepsThrottles s u) : KeepsThrottles s (if fires then fire m c u else u) :=
  ite_keepsThrottles (fun _ => h.trans (fire_keepsThrottles ..)) fun _ => h

/-- The expiry of a hold timer that runs: the module is CLAMPED (R103). -/
theorem expireHold_keepsThrottles {m : ModuleId} {s : State} (hr : (moduleAt s m).throttle.holdTimer.isSome = true) :
    KeepsThrottles s (expireHold m s) := by
  unfold expireHold
  dsimp only
  split
  · split
    · exact setThrottle_keepsThrottles fun h => h.withHold (h.clamped_of_running hr) _
    · exact .refl s
  · exact (setThrottle_keepsThrottles fun h => h.holdExpired (h.clamped_of_running hr)).trans
      (notice_keepsThrottles ..)

theorem takeReleaseStep_keepsThrottles (m : ModuleId) (s : State) : KeepsThrottles s (takeReleaseStep m s) := by
  unfold takeReleaseStep
  dsimp only
  split
  · next hstate _ =>
    refine ite_keepsThrottles (fun _ => ?_) fun _ => setThrottle_keepsThrottles fun h => h.backoffStepped hstate _
    exact (setThrottle_keepsThrottles fun h => h.released hstate).trans (notice_keepsThrottles ..)
  · exact .refl s

/-- A new profile in force with the throttle's part of the completion: between the two the law need not hold (R106). -/
theorem commitInForce_keepsThrottles (m : ModuleId) (a : ActiveProfile) (s : State) :
    KeepsThrottles s (throttleTakesCommit m a.words (putInForce m a s)) := by
  refine ⟨fun n h => ?_⟩
  by_cases hn : n = m
  · subst hn
    have hactive : (moduleAt (throttleTakesCommit n a.words (putInForce n a s)) n).active = some a := by
      rw [throttleTakesCommit_module, putInForce, moduleAt_setModuleAt_same]
    rw [ThrottleWithin, hactive, throttleTakesCommit_throttle, putInForce, moduleAt_setModuleAt_same]
    exact h.afterCommit a
  · rw [throttleTakesCommit_otherModule hn, putInForce, moduleAt_setModuleAt_other hn]
    exact h

/-! ### Readings, the ring advance and time (chapters 2 and 3) -/

theorem readTelemetry_keepsThrottles (a b c d e : Word) (s : State) :
    KeepsThrottles s (readTelemetry a b c d e s) := by
  have where_present {t : State} (u : State) (i : Nat) (h : KeepsThrottles u t) :
      KeepsThrottles u (if b.getLsbD i then t else u) := ite_keepsThrottles (fun _ => h) fun _ => .refl u
  unfold readTelemetry
  split
  · exact .refl s
  · exact ((where_present _ 0 (setContext_keepsThrottles ..)).trans
      (where_present _ 1 (thenFire_keepsThrottles (setContext_keepsThrottles ..)))).trans
      (where_present _ 2 (thenFire_keepsThrottles (setContext_keepsThrottles ..)))

theorem sortReturn_keepsThrottles (f : Frame) (s : State) : KeepsThrottles s (sortReturn f s) := by
  unfold sortReturn
  split
  · exact ite_keepsThrottles (fun _ => readTelemetry_keepsThrottles ..) fun _ => .refl s
  · exact .refl s

theorem expireSilence_keepsThrottles (m : ModuleId) (s : State) : KeepsThrottles s (expireSilence m s) :=
  ite_keepsThrottles (fun _ => (setContext_keepsThrottles ..).trans (fire_keepsThrottles ..))
    fun _ => setContext_keepsThrottles ..

theorem advance_keepsThrottles (m : ModuleId) (s : State) : KeepsThrottles s (advance m s) :=
  (((setRing_keepsThrottles ..).trans (thenFire_keepsThrottles (setRing_keepsThrottles ..))).trans
    (takeReleaseStep_keepsThrottles ..)).trans
    (ite_keepsThrottles (fun _ => setScrub_keepsThrottles ..) fun _ => .refl _)

theorem passTime_keepsThrottles (s : State) : KeepsThrottles s (passTime s) := by
  unfold passTime
  refine ite_keepsThrottles (fun _ => .refl s) fun _ => ?_
  have modules (u : State) (m : ModuleId) : KeepsThrottles u (setModuleAt m (tickModule (moduleAt u m)) u) :=
    setModuleAt_keepsThrottles fun h => h.ticked
  have paths (u : State) (p : PathId) : KeepsThrottles u (setPathAt p (tickPath (pathAt u p)) u) :=
    setPathAt_keepsThrottles ..
  refine .trans ((foldl_keepsThrottles modules allModules s).trans (foldl_keepsThrottles paths allPaths _)) ?_
  exact .of_modules rfl

/-! ### Loads, the long operations and what ends them (chapters 7 and 10) -/

theorem endLoad_keepsThrottles (l : LoadContext) (o : LoadOutcome) (n : Option Nat) (sh : ShadowState) (s : State) :
    KeepsThrottles s (endLoad l o n sh s) := .of_modules (offer_modules ..)

theorem takeSegment_keepsThrottles (index : Word) (words : List Word) (s : State) :
    KeepsThrottles s (takeSegment index words s) := by
  unfold takeSegment
  split
  · exact addCondition_keepsThrottles ..
  · refine ite_keepsThrottles (fun _ => ?_) fun _ => endLoad_keepsThrottles ..
    exact ite_keepsThrottles (fun _ => .of_modules (offer_modules ..)) fun _ => .of_modules rfl

theorem abandonLongCommand_keepsThrottles (s : State) : KeepsThrottles s (abandonLongCommand s) := by
  unfold abandonLongCommand
  split
  · exact .refl s
  · exact .of_modules rfl
  · exact ite_keepsThrottles (fun _ => .of_modules rfl) fun _ => .of_modules rfl

theorem cutLoad_keepsThrottles (s : State) : KeepsThrottles s (cutLoad s) := by
  unfold cutLoad
  split
  · exact .refl s
  · exact .of_modules rfl

theorem abandonAll_keepsThrottles (s : State) :
    KeepsThrottles s (abandonScrubs (cutLoad (abandonLongCommand s))) :=
  ((abandonLongCommand_keepsThrottles s).trans (cutLoad_keepsThrottles _)).trans
    (foldl_keepsThrottles (fun _ _ => setScrub_keepsThrottles ..) allModules _)

theorem enterLockdown_keepsThrottles (cause : LockdownCause) (s : State) :
    KeepsThrottles s (enterLockdown cause s) := (abandonAll_keepsThrottles s).trans (.of_modules (offer_modules ..))

theorem completeScrub_keepsThrottles (m : ModuleId) (s : State) : KeepsThrottles s (completeScrub m s) := by
  have ended : KeepsThrottles s (setScrub m false s) := setScrub_keepsThrottles ..
  unfold completeScrub
  dsimp only
  split
  · exact ite_keepsThrottles (fun _ => ended) fun _ => ended.trans (enterLockdown_keepsThrottles ..)
  · exact ended

theorem completePowerUp_keepsThrottles (table ring : Option StoreFault) (s : State) :
    KeepsThrottles s (completePowerUp table ring s) := by
  have recorded (r : TestResults) : KeepsThrottles s { s with testResults := r, ringFault := none } :=
    .of_modules rfl
  exact ite_keepsThrottles (fun _ => (recorded _).trans (enterLockdown_keepsThrottles ..))
    fun _ => .of_modules (offer_modules ..)

theorem completeTestRun_keepsThrottles (tests : TestSet) (table ring : Option StoreFault) (loop : Option LoopFault)
    (s : State) : KeepsThrottles s (completeTestRun tests table ring loop s) := by
  have recorded (r : TestResults) : KeepsThrottles s { s with testResults := r, ringFault := none } := .of_modules rfl
  have completed (fs : List (SelfTest × TestReason)) (r : TestResults) : KeepsThrottles s
      (if critical fs then enterLockdown .test { s with testResults := r, ringFault := none }
        else { s with testResults := r, ringFault := none, deviceState := .standby }) :=
    ite_keepsThrottles (fun _ => (recorded r).trans (enterLockdown_keepsThrottles ..)) fun _ => .of_modules rfl
  exact (completed _ _).trans (.of_modules (offer_modules ..))

theorem completeCommit_keepsThrottles (m : ModuleId) (check : CheckValue) (s : State) :
    KeepsThrottles s (completeCommit m check s) := by
  unfold completeCommit
  split
  · exact (commitInForce_keepsThrottles m ⟨s.shadow, check⟩ s).trans (.of_modules (offer_modules ..))
  · exact .of_modules (offer_modules ..)

/-! ### Commands (chapter 9) -/

theorem answer_keepsThrottles (code : Word) (o : AnswerOutcome) (detail : List Word) {s u : State}
    (h : KeepsThrottles s u) : KeepsThrottles s (answer code o detail u) := h.trans (offer_keepsThrottles ..)

theorem refuse_keepsThrottles (cmd : Command) (o : AnswerOutcome) (s : State) : KeepsThrottles s (refuse cmd o s) :=
  answer_keepsThrottles _ _ _ (.refl s)

theorem done_keepsThrottles (cmd : Command) (detail : List Word) {s u : State} (h : KeepsThrottles s u) :
    KeepsThrottles s (done cmd detail u) := answer_keepsThrottles _ _ _ h

/-- READ STATUS may empty the latched criteria sets (R100, R157). -/
theorem doReadStatus_keepsThrottles (params : List Word) (s : State) : KeepsThrottles s (doReadStatus params s) := by
  have cleared : KeepsThrottles s (clearLatchedSets s) :=
    (KeepsThrottles.of_modules rfl : KeepsThrottles s { s with status := 0 }).trans
      (foldl_keepsThrottles (fun _ _ => setThrottle_keepsThrottles fun h => h.withLatched 0) allModules _)
  unfold doReadStatus
  split
  · split
    · exact done_keepsThrottles _ _ (ite_keepsThrottles (fun _ => cleared) fun _ => .refl s)
    · exact refuse_keepsThrottles ..
  · exact refuse_keepsThrottles ..

theorem doSnapshot_keepsThrottles (params : List Word) (s : State) : KeepsThrottles s (doSnapshot params s) := by
  have cleared : KeepsThrottles s (clearCounters s) :=
    foldl_keepsThrottles (fun _ _ => setPathAt_keepsThrottles ..) allPaths s
  unfold doSnapshot
  split
  · split
    · exact done_keepsThrottles _ _ (ite_keepsThrottles (fun _ => cleared) fun _ => .refl s)
    · exact refuse_keepsThrottles ..
  · exact refuse_keepsThrottles ..

theorem doReadEntry_keepsThrottles (params : List Word) (s : State) : KeepsThrottles s (doReadEntry params s) := by
  unfold doReadEntry
  split
  · split
    · exact done_keepsThrottles _ _ (.refl s)
    · exact refuse_keepsThrottles ..
  · exact refuse_keepsThrottles ..

theorem doSetPath_keepsThrottles (params : List Word) (s : State) : KeepsThrottles s (doSetPath params s) := by
  unfold doSetPath
  split
  · split
    · exact ite_keepsThrottles (fun _ => refuse_keepsThrottles ..) fun _ =>
        ite_keepsThrottles (fun _ => refuse_keepsThrottles ..) fun _ =>
        done_keepsThrottles _ _ (setPathAt_keepsThrottles ..)
    · exact refuse_keepsThrottles ..
  · exact refuse_keepsThrottles ..

theorem doSetModule_keepsThrottles (params : List Word) (s : State) : KeepsThrottles s (doSetModule params s) := by
  unfold doSetModule
  split
  · split
    · exact done_keepsThrottles _ _ (setContext_keepsThrottles ..)
    · exact refuse_keepsThrottles ..
  · exact refuse_keepsThrottles ..

theorem doSetLimits_keepsThrottles (params : List Word) (s : State) : KeepsThrottles s (doSetLimits params s) := by
  unfold doSetLimits
  split
  · split
    · exact done_keepsThrottles _ _ (setContext_keepsThrottles ..)
    · exact refuse_keepsThrottles ..
  · exact refuse_keepsThrottles ..

theorem doSetDevice_keepsThrottles (params : List Word) (s : State) : KeepsThrottles s (doSetDevice params s) := by
  unfold doSetDevice
  split
  · split
    · exact done_keepsThrottles _ _ (.of_modules rfl)
    · exact refuse_keepsThrottles ..
  · exact refuse_keepsThrottles ..

theorem doLoadOpen_keepsThrottles (params : List Word) (s : State) : KeepsThrottles s (doLoadOpen params s) := by
  unfold doLoadOpen
  split
  · exact ite_keepsThrottles (fun _ => refuse_keepsThrottles ..) fun _ =>
      ite_keepsThrottles (fun _ => refuse_keepsThrottles ..) fun _ => done_keepsThrottles _ _ (.of_modules rfl)
  · exact refuse_keepsThrottles ..

theorem doLoadAbort_keepsThrottles (params : List Word) (s : State) : KeepsThrottles s (doLoadAbort params s) := by
  unfold doLoadAbort
  split
  · exact done_keepsThrottles _ _ (endLoad_keepsThrottles ..)
  · exact refuse_keepsThrottles ..

theorem doCommit_keepsThrottles (params : List Word) (s : State) : KeepsThrottles s (doCommit params s) := by
  unfold doCommit
  split
  · split
    · exact refuse_keepsThrottles ..
    · next m _ =>
      refine ite_keepsThrottles (fun _ => refuse_keepsThrottles ..) fun _ =>
        ite_keepsThrottles (fun _ => refuse_keepsThrottles ..) fun _ => ?_
      refine .trans (.of_modules ?_) (setScrub_keepsThrottles m false _)
      rfl
  · exact refuse_keepsThrottles ..

theorem doGovern_keepsThrottles (params : List Word) (s : State) : KeepsThrottles s (doGovern params s) := by
  refine ite_keepsThrottles (fun _ => ?_) fun _ => refuse_keepsThrottles ..
  split
  · exact answer_keepsThrottles _ _ _ (.refl s)
  · exact done_keepsThrottles _ _ (.of_modules rfl)

theorem doStandby_keepsThrottles (params : List Word) (s : State) : KeepsThrottles s (doStandby params s) :=
  ite_keepsThrottles (fun _ => done_keepsThrottles _ _ (.of_modules rfl)) fun _ => refuse_keepsThrottles ..

theorem doClearLatch_keepsThrottles (params : List Word) (s : State) : KeepsThrottles s (doClearLatch params s) := by
  unfold doClearLatch
  split
  · split
    · exact refuse_keepsThrottles ..
    · refine ite_keepsThrottles (fun hlatched => done_keepsThrottles _ _ ?_) fun _ => refuse_keepsThrottles ..
      exact (setThrottle_keepsThrottles fun h => h.latchCleared hlatched).trans (notice_keepsThrottles ..)
  · exact refuse_keepsThrottles ..

theorem doRunTests_keepsThrottles (params : List Word) (s : State) : KeepsThrottles s (doRunTests params s) := by
  unfold doRunTests
  split
  · exact ite_keepsThrottles (fun _ => refuse_keepsThrottles ..) fun _ =>
      ite_keepsThrottles (fun _ => refuse_keepsThrottles ..) fun _ =>
      ite_keepsThrottles (fun _ => refuse_keepsThrottles ..) fun _ =>
      ite_keepsThrottles (fun _ => .of_modules rfl) fun _ => .of_modules rfl
  · exact refuse_keepsThrottles ..

theorem doSoftRestart_keepsThrottles (params : List Word) (s : State) :
    KeepsThrottles s (doSoftRestart params s) := by
  have truncated (u : State) : KeepsThrottles u (truncateAll u) :=
    foldl_keepsThrottles (fun u p => truncateBurst_keepsThrottles p u) allPaths u
  have ended := (abandonAll_keepsThrottles s).trans (truncated _)
  unfold doSoftRestart
  dsimp only
  generalize truncateAll (abandonScrubs (cutLoad (abandonLongCommand s))) = u at ended ⊢
  exact done_keepsThrottles _ _ (ended.trans (.of_modules rfl))

/-- A reset leaves every module within the law, whatever it held. -/
theorem keepsThrottles_of_reset {s t : State} (h : t.modules = State.reset.modules) : KeepsThrottles s t :=
  ⟨fun m _ => (KeepsThrottles.of_modules h).module m (reset_throttleWithin m)⟩

/-! ### The Command Unit and the ports -/

theorem takeCommand_keepsThrottles {cmd : Command} {effect : List Word → State → State} {params : List Word}
    {s : State} (h : KeepsThrottles s (effect params s)) : KeepsThrottles s (takeCommand cmd effect params s) := by
  unfold takeCommand
  refine ite_keepsThrottles (fun _ => addCondition_keepsThrottles ..) fun _ => ?_
  split
  · exact refuse_keepsThrottles ..
  · exact ite_keepsThrottles (fun _ => refuse_keepsThrottles ..) fun _ => h

theorem takeControl_keepsThrottles (code : Word) (params : List Word) (s : State) :
    KeepsThrottles s (takeControl code params s) := by
  unfold takeControl
  split
  · exact ite_keepsThrottles (fun _ => addCondition_keepsThrottles ..) fun _ => answer_keepsThrottles _ _ _ (.refl s)
  all_goals apply takeCommand_keepsThrottles
  · exact done_keepsThrottles _ _ (.refl s)
  · exact doReadStatus_keepsThrottles ..
  · exact doSetPath_keepsThrottles ..
  · exact doSetModule_keepsThrottles ..
  · exact doSetLimits_keepsThrottles ..
  · exact doSetDevice_keepsThrottles ..
  · exact doLoadOpen_keepsThrottles ..
  · exact doLoadAbort_keepsThrottles ..
  · exact doCommit_keepsThrottles ..
  · exact doGovern_keepsThrottles ..
  · exact doStandby_keepsThrottles ..
  · exact doClearLatch_keepsThrottles ..
  · exact doSnapshot_keepsThrottles ..
  · exact doReadEntry_keepsThrottles ..
  · exact doRunTests_keepsThrottles ..
  · exact doSoftRestart_keepsThrottles ..
  · exact keepsThrottles_of_reset rfl

theorem takeForward_keepsThrottles (f : Frame) {handler : State → State} {s : State}
    (h : KeepsThrottles s (handler s)) : KeepsThrottles s (takeForward f handler s) :=
  ite_keepsThrottles (fun _ => .refl s) fun _ =>
    ite_keepsThrottles (fun _ => h) fun _ => addCondition_keepsThrottles ..

theorem modemPort_keepsThrottles (f : Frame) {handler : State → State} {s : State}
    (h : KeepsThrottles s (handler s)) : KeepsThrottles s (modemPort f handler s) :=
  ite_keepsThrottles (fun _ => .of_modules rfl) fun _ => takeForward_keepsThrottles f h

theorem radioPort_keepsThrottles (f : Frame) {reading : State → State} {s : State}
    (h : KeepsThrottles s (reading s)) : KeepsThrottles s (radioPort f reading s) :=
  ite_keepsThrottles (fun _ => .refl s) fun _ =>
    (ite_keepsThrottles (fun _ => h) fun _ => addCondition_keepsThrottles ..).trans (enterBuffer_keepsThrottles ..)

theorem sortForward_keepsThrottles (f : Frame) (s : State) : KeepsThrottles s (sortForward f s) := by
  unfold sortForward
  repeat' split
  · exact takeSample_keepsThrottles ..
  · exact .refl s
  · exact takeBurstOpen_keepsThrottles ..
  · exact .refl s
  · exact takeBurstClose_keepsThrottles ..
  · exact takeLevelStep_keepsThrottles ..
  · exact .refl s
  · exact takeControl_keepsThrottles ..
  · exact .refl s
  · exact takeSegment_keepsThrottles ..
  · exact .refl s
  · exact send_keepsThrottles ..

theorem takeWaiting_keepsThrottles (fs : List Frame) (s : State) : KeepsThrottles s (takeWaiting fs s) := by
  induction fs generalizing s with
  | nil => exact .of_modules rfl
  | cons f fs ih =>
    have waiting (gs : List Frame) : KeepsThrottles s { s with modemWaiting := gs } := .of_modules rfl
    unfold takeWaiting
    refine ite_keepsThrottles (fun _ => ?_) fun _ => waiting _
    exact ((waiting fs).trans (takeForward_keepsThrottles f (sortForward_keepsThrottles f _))).trans (ih _)

/-! ### Every step -/

/-- If the part goes on, its modules stay within the throttle law. -/
def GoesOnThrottled (s : State) (o : Host.Outcome State Fault Refusal) : Prop := ∀ t, o = .next t → KeepsThrottles s t

theorem goesOnThrottled_next {s t : State} (h : KeepsThrottles s t) : GoesOnThrottled s (.next t) := by
  intro u e
  cases e
  exact h

theorem goesOnThrottled_ite {b : Prop} [Decidable b] {s t u : State} (ht : b → KeepsThrottles s t)
    (hu : KeepsThrottles s u) : GoesOnThrottled s (if b then .next t else .next u) := by
  split
  · next h => exact goesOnThrottled_next (ht h)
  · exact goesOnThrottled_next hu

theorem goesOnThrottled_port (f : Frame) {handler : State → State} {s : State} (h : KeepsThrottles s (handler s)) :
    GoesOnThrottled s (.next (modemPort f handler s)) := goesOnThrottled_next (modemPort_keepsThrottles f h)

theorem goesOnThrottled_control (code : Word) (params : List Word) (s : State) :
    GoesOnThrottled s (.next (controlArrives code params (takeControl code params) s)) :=
  goesOnThrottled_port _ (takeControl_keepsThrottles ..)

theorem execGapTimerExpiry_goesOnThrottled (s : State) : GoesOnThrottled s (execGapTimerExpiry s) := by
  unfold execGapTimerExpiry
  split
  · exact goesOnThrottled_next (.refl s)
  · exact goesOnThrottled_next (endLoad_keepsThrottles ..)

theorem execCommitCompletion_goesOnThrottled (s : State) : GoesOnThrottled s (execCommitCompletion s) := by
  unfold execCommitCompletion
  split
  · exact goesOnThrottled_next (completeCommit_keepsThrottles ..)
  · exact goesOnThrottled_next (.refl s)
  · exact goesOnThrottled_next (.refl s)

theorem execTestRunCompletion_goesOnThrottled (table ring : Option StoreFault) (loop : Option LoopFault) (s : State) :
    GoesOnThrottled s (execTestRunCompletion table ring loop s) := by
  unfold execTestRunCompletion
  split
  · exact goesOnThrottled_next (completeTestRun_keepsThrottles ..)
  · exact goesOnThrottled_next (.refl s)
  · exact goesOnThrottled_next (.refl s)

theorem execDroopAssertingEdge_goesOnThrottled (s : State) : GoesOnThrottled s (execDroopAssertingEdge s) := by
  have asserted : KeepsThrottles s { s with droopLine := true } := .of_modules rfl
  exact goesOnThrottled_ite (fun _ => asserted)
    (asserted.trans (foldl_keepsThrottles (fun u m => fire_keepsThrottles m .droop u) allModules _))

theorem execRingStoreBinExamination_goesOnThrottled (m : ModuleId) (bin : BinId) (found : Option StoreFault)
    (s : State) : GoesOnThrottled s (execRingStoreBinExamination m bin found s) := by
  have recorded : KeepsThrottles s { s with ringFault := s.ringFault.or found } := .of_modules rfl
  exact goesOnThrottled_ite (fun _ => recorded.trans (setRing_keepsThrottles ..)) (.refl s)

theorem exec_goesOnThrottled (i : Instr) (s : State) : GoesOnThrottled s (exec i s) := by
  cases i with
  | sample => exact goesOnThrottled_port _ (takeSample_keepsThrottles ..)
  | burstOpen => exact goesOnThrottled_port _ (takeBurstOpen_keepsThrottles ..)
  | burstClose => exact goesOnThrottled_port _ (takeBurstClose_keepsThrottles ..)
  | levelStep => exact goesOnThrottled_port _ (takeLevelStep_keepsThrottles ..)
  | segment => exact goesOnThrottled_port _ (takeSegment_keepsThrottles ..)
  | forwardPassThrough => exact goesOnThrottled_port _ (sortForward_keepsThrottles ..)
  | forwardFrameFailingItsCheck => exact goesOnThrottled_port _ (sortForward_keepsThrottles ..)
  | forwardOutputSent =>
    have sent : KeepsThrottles s { s with forwardOutput := s.forwardOutput.tail } := .of_modules rfl
    exact goesOnThrottled_ite (fun _ => .refl s) (sent.trans (takeWaiting_keepsThrottles ..))
  | telemetry => exact goesOnThrottled_next (radioPort_keepsThrottles _ (readTelemetry_keepsThrottles ..))
  | returnFrame => exact goesOnThrottled_next (radioPort_keepsThrottles _ (sortReturn_keepsThrottles ..))
  | mergeArbiterChoice =>
    refine goesOnThrottled_ite (fun _ => .refl s) ?_
    rw [mergeChoice_writes]
    exact .of_modules rfl
  | binExpiry m => exact goesOnThrottled_ite (fun _ => .refl s) (advance_keepsThrottles m s)
  | holdExpiry m => exact goesOnThrottled_ite (fun ⟨_, hruns⟩ => expireHold_keepsThrottles hruns) (.refl s)
  | silenceTimerExpiry m => exact goesOnThrottled_ite (fun _ => expireSilence_keepsThrottles m s) (.refl s)
  | graceExpiry p => exact goesOnThrottled_ite (fun _ => .refl s) (truncateBurst_keepsThrottles p s)
  | gapTimerExpiry => exact execGapTimerExpiry_goesOnThrottled s
  | commitCompletion => exact execCommitCompletion_goesOnThrottled s
  | testRunCompletion table ring loop => exact execTestRunCompletion_goesOnThrottled table ring loop s
  | powerUpTestsCompletion table ring =>
    exact goesOnThrottled_ite (fun _ => completePowerUp_keepsThrottles table ring s) (.refl s)
  | scrubCompletion m => exact goesOnThrottled_ite (fun _ => completeScrub_keepsThrottles m s) (.refl s)
  | ringStoreBinExamination m bin found => exact execRingStoreBinExamination_goesOnThrottled m bin found s
  | resetPinAssertion => exact goesOnThrottled_next (keepsThrottles_of_reset rfl)
  | resetPinRelease => exact goesOnThrottled_next (keepsThrottles_of_reset rfl)
  | droopAssertingEdge => exact execDroopAssertingEdge_goesOnThrottled s
  | droopReleasingEdge => exact goesOnThrottled_next (.of_modules rfl)
  | identify params => exact goesOnThrottled_control (commandCode .identify) params s
  | readStatus params => exact goesOnThrottled_control (commandCode .readStatus) params s
  | setPath params => exact goesOnThrottled_control (commandCode .setPath) params s
  | setModule params => exact goesOnThrottled_control (commandCode .setModule) params s
  | setLimits params => exact goesOnThrottled_control (commandCode .setLimits) params s
  | setDevice params => exact goesOnThrottled_control (commandCode .setDevice) params s
  | loadOpen params => exact goesOnThrottled_control (commandCode .loadOpen) params s
  | loadAbort params => exact goesOnThrottled_control (commandCode .loadAbort) params s
  | commit params => exact goesOnThrottled_control (commandCode .commit) params s
  | govern params => exact goesOnThrottled_control (commandCode .govern) params s
  | standby params => exact goesOnThrottled_control (commandCode .standby) params s
  | clearLatch params => exact goesOnThrottled_control (commandCode .clearLatch) params s
  | snapshot params => exact goesOnThrottled_control (commandCode .snapshot) params s
  | readEntry params => exact goesOnThrottled_control (commandCode .readEntry) params s
  | runTests params => exact goesOnThrottled_control (commandCode .runTests) params s
  | softRestart params => exact goesOnThrottled_control (commandCode .softRestart) params s
  | hardReset params a b =>
    have strapped : KeepsThrottles s { s with nsel1 := a, nsel0 := b } := .of_modules rfl
    have taken := takeControl_keepsThrottles (commandCode .hardReset) params { s with nsel1 := a, nsel0 := b }
    exact goesOnThrottled_next (strapped.trans (modemPort_keepsThrottles _ taken))
  | unknownCommand code params => exact goesOnThrottled_control code params s

theorem step_keepsThrottles {s t : State} (h : step s = .next t) : KeepsThrottles s t := by
  unfold step at h
  split at h
  · next c rest _ =>
    have taken : KeepsThrottles s { s with pending := rest } := .of_modules rfl
    exact taken.trans (exec_goesOnThrottled c _ t h)
  · unfold idle at h
    split at h
    · exact exec_goesOnThrottled _ s t h
    · exact goesOnThrottled_next (passTime_keepsThrottles s) t h

/-- Settles O59: each act of the Throttle Unit moves a context from one state's law to another's, a commit's completion
to that of the new profile, and nothing else writes a profile or more of a context than its hold timer's time and its
latched set. -/
theorem everyStepKeepsTheThrottleLaw : Obligations.EveryStepKeepsTheThrottleLaw := by
  intro s t hs hstep
  have before := (throttlesLawful_iff s).mp hs
  exact (throttlesLawful_iff t).mpr fun m => (step_keepsThrottles hstep).module m (before m)

end Sys2Proof.Machine
end

section
/-! ### Loading: LOAD OPEN, SEGMENT frames, the gap timer and LOAD ABORT (R116 to R125) -/

namespace Sys2Proof.Machine

open Sys2Proof.Claim

/-! ### LOAD OPEN (R117) -/

theorem gapRun_eq (code : Nat) : gapRun code = 80 * code := Nat.mul_comm ..

theorem loadInRange_iff (start cnt gap : Word) : loadInRange start cnt gap = true ↔
    start.toNat ≤ 12 ∧ 1 ≤ cnt.toNat ∧ cnt.toNat ≤ 13 ∧ start.toNat + cnt.toNat ≤ 13 ∧
      1 ≤ gap.toNat ∧ gap.toNat ≤ 15 := by
  simp only [loadInRange, Bool.and_eq_true, decide_eq_true_eq, and_assoc]

theorem doLoadOpen_outOfRange {start cnt gap : Word} (h : loadInRange start cnt gap = false) (s : State) :
    doLoadOpen [start, cnt, gap] s = answered 0x0007 .range [] s := by
  simp only [doLoadOpen, h]
  rfl

theorem doLoadOpen_busy {start cnt gap : Word} {s : State} (h : loadInRange start cnt gap = true)
    (hopen : s.load.isSome = true) : doLoadOpen [start, cnt, gap] s = answered 0x0007 .busy [] s := by
  simp only [doLoadOpen, h, hopen]
  rfl

theorem doLoadOpen_opens {start cnt gap : Word} {s : State} (h : loadInRange start cnt gap = true)
    (hidle : s.load = none) : doLoadOpen [start, cnt, gap] s = answered 0x0007 .done [] { s with
      shadowState := .loading,
      load := some { start := start.toNat, count := cnt.toNat, expected := start.toNat, taken := 0,
                     gapCode := gap.toNat, gapTimer := 80 * gap.toNat } } := by
  simp only [doLoadOpen, h, hidle, gapRun_eq]
  rfl

/-- Settles O33: the command is executed; its range is tested first, then whether a load is open. -/
theorem loadOpenOpensALoad : Obligations.LoadOpenOpensALoad := by
  intro start cnt gap s hexecuting inRange
  obtain ⟨⟨⟨hon, hempty, hnowait⟩, hroom⟩, hworks, hlong⟩ := hexecuting
  have hexec : exec (.loadOpen [start, cnt, gap]) s = .next (doLoadOpen [start, cnt, gap] s) :=
    exec_loadOpen_executed hon hempty hnowait hroom hworks hlong ..
  have hrange : loadInRange start cnt gap = true ↔ inRange := loadInRange_iff ..
  rw [hexec, ← hrange, Bool.not_eq_true]
  refine ⟨fun hout => ?_, fun hin hopen => ?_, fun hin hidle => ?_⟩
  · rw [doLoadOpen_outOfRange hout]
  · rw [doLoadOpen_busy hin hopen]
  · rw [doLoadOpen_opens hin hidle]

/-! ### SEGMENT frames (R119, R121, R125) -/

theorem acceptSegment_goesOn {l : LoadContext} (h : l.taken + 1 ≠ l.count) (words : List Word) (s : State) :
    acceptSegment l words s = { s with
      shadow := writeWords s.shadow (32 * l.expected) words,
      load := some { l with expected := l.expected + 1, taken := l.taken + 1, gapTimer := 80 * l.gapCode } } := by
  rw [acceptSegment, gapRun_eq]
  exact if_neg h

theorem acceptSegment_completes {l : LoadContext} (h : l.taken + 1 = l.count) (words : List Word) (s : State) :
    acceptSegment l words s = offer (.loadResult .complete l.start l.count (l.taken + 1) none) { s with
      shadow := writeWords s.shadow (32 * l.expected) words, load := none, shadowState := .ready } := by
  rw [acceptSegment]
  exact if_pos h

theorem takeSegment_expected {index : Word} {s : State} {l : LoadContext} (hl : s.load = some l)
    (h : index.toNat = l.expected) (words : List Word) : takeSegment index words s = acceptSegment l words s := by
  simp only [takeSegment, hl, if_pos h]

theorem takeSegment_outOfPlace {index : Word} {s : State} {l : LoadContext} (hl : s.load = some l)
    (h : index.toNat ≠ l.expected) (words : List Word) : takeSegment index words s =
      offer (.loadResult .order l.start l.count l.taken (some (index.toNat % 16)))
        { s with load := none, shadowState := .incomplete } := by
  simp only [takeSegment, hl, if_neg h]
  rfl

theorem takeSegment_unopened {s : State} (h : s.load = none) (index : Word) (words : List Word) :
    takeSegment index words s = latch 4 s := by
  simp only [takeSegment, h]
  rfl

/-- Settles O34: the shadow is the one with the segment's 32 words written from word 32 times the expected index on; the
count of segments decides whether the load goes on. -/
theorem anExpectedSegmentIsWritten : Obligations.AnExpectedSegmentIsWritten := by
  intro index words s l hport hwords hload hplace
  obtain ⟨hon, hempty, hnowait⟩ := hport
  have hexec : exec (.segment index words) s = .next (acceptSegment l words s) := by
    rw [exec_segment_taken hon hempty hnowait index words hwords, takeSegment_expected hload hplace]
  refine ⟨writeWords s.shadow (32 * l.expected) words, fun i hi => ?_, fun hmore => ?_, fun hlast => ?_⟩
  · rw [writeWords_word words _ _ _ hi, hwords]
  · rw [hexec, acceptSegment_goesOn hmore]
  · rw [hexec, acceptSegment_completes hlast]

/-- Settles O35: the segment is taken, and what the load state is decides; in neither case does it reach the shadow. -/
theorem aSegmentOutOfPlaceIsNotWritten : Obligations.ASegmentOutOfPlaceIsNotWritten := by
  intro index words s hport hwords
  obtain ⟨hon, hempty, hnowait⟩ := hport
  have hexec : exec (.segment index words) s = .next (takeSegment index words s) :=
    exec_segment_taken hon hempty hnowait index words hwords
  refine ⟨fun l hload hplace => ?_, fun hidle => ?_⟩
  · rw [hexec, takeSegment_outOfPlace hload hplace]
  · rw [hexec, takeSegment_unopened hidle]

/-! ### The gap timer and LOAD ABORT (R123, R124) -/

theorem exec_gapTimerExpiry_open {s : State} {l : LoadContext} (h : s.load = some l) :
    exec .gapTimerExpiry s = .next (endLoad l .timeout none .incomplete s) := by
  show execGapTimerExpiry s = _
  rw [execGapTimerExpiry, h]

theorem doLoadAbort_open {s : State} {l : LoadContext} (h : s.load = some l) (params : List Word) :
    doLoadAbort params s =
      answered 0x0008 .done [BitVec.ofNat 16 l.taken] (endLoad l .aborted none .incomplete s) := by
  rw [doLoadAbort, h]
  rfl

theorem doLoadAbort_idle {s : State} (h : s.load = none) (params : List Word) :
    doLoadAbort params s = answered 0x0008 .state [0] s := by
  have htaken : segmentsTaken s = 0 := by rw [segmentsTaken, h]
  have hdetail : refusalDetail s .loadAbort .state = [natWord (segmentsTaken s)] := if_pos rfl
  simp only [doLoadAbort, h, refuse, hdetail, htaken]
  rfl

/-- Settles O36: an open load is ended by both, with the outcome of each; with none open LOAD ABORT is refused. -/
theorem aLoadEndsByTimeoutOrAbort : Obligations.ALoadEndsByTimeoutOrAbort := by
  intro s
  have aborted (h : Executing s) : exec (.loadAbort []) s = .next (doLoadAbort [] s) := by
    obtain ⟨⟨⟨hon, hempty, hnowait⟩, hroom⟩, hworks, hlong⟩ := h
    exact exec_loadAbort_executed hon hempty hnowait hroom hworks hlong
  refine ⟨fun l hload => ?_, fun hidle hexecuting => ?_⟩
  · intro ends
    refine ⟨exec_gapTimerExpiry_open hload, fun hexecuting => ?_⟩
    rw [aborted hexecuting, doLoadAbort_open hload]
    rfl
  · rw [aborted hexecuting, doLoadAbort_idle hidle]

end Sys2Proof.Machine
end

section
/-! ### Committing: COMMIT and its completion (R106, R127, R130, R131) -/

namespace Sys2Proof.Machine

open Sys2Proof.Claim

/-! ### COMMIT (R127) -/

theorem doCommit_noModule {w : Word} (h : 3 < w.toNat) (hi lo : Word) (s : State) :
    doCommit [w, hi, lo] s = answered 0x0009 .range [] s := by
  simp only [doCommit, wordModule_of_gt h]
  rfl

theorem doCommit_busy {w : Word} {m : ModuleId} {s : State} (hm : w.toNat = m.val) (hopen : s.load.isSome = true)
    (hi lo : Word) : doCommit [w, hi, lo] s = answered 0x0009 .busy [] s := by
  simp only [doCommit, wordModule_of_eq hm, if_pos hopen]
  rfl

theorem doCommit_notReady {w : Word} {m : ModuleId} {s : State} (hm : w.toNat = m.val) (hidle : s.load = none)
    (hshadow : s.shadowState ≠ .ready) (hi lo : Word) :
    doCommit [w, hi, lo] s = answered 0x0009 .state [] s := by
  simp only [doCommit, wordModule_of_eq hm, hidle, if_pos hshadow]
  rfl

theorem doCommit_starts {w : Word} {m : ModuleId} {s : State} (hm : w.toNat = m.val) (hidle : s.load = none)
    (hshadow : s.shadowState = .ready) (hi lo : Word) : doCommit [w, hi, lo] s =
      setModuleAt m { moduleAt s m with scrub := false } { s with
        shadowState := .committing,
        longCommand := .commit m (BitVec.ofNat 32 (65536 * hi.toNat + lo.toNat)) } := by
  simp only [doCommit, wordModule_of_eq hm, hidle, hshadow, fromTwoWords, Nat.mul_comm hi.toNat]
  rfl

/-- Settles O37: the command is executed, and its tests are made in R127's order. -/
theorem commitIsTestedThenStarts : Obligations.CommitIsTestedThenStarts := by
  intro w hi lo s hexecuting
  obtain ⟨⟨⟨hon, hempty, hnowait⟩, hroom⟩, hworks, hlong⟩ := hexecuting
  have hexec : exec (.commit [w, hi, lo]) s = .next (doCommit [w, hi, lo] s) :=
    exec_commit_executed hon hempty hnowait hroom hworks hlong ..
  rw [hexec]
  refine ⟨fun hgt => ?_, fun m hm => ⟨fun hopen => ?_, fun hidle hshadow => ?_, fun hidle hshadow => ?_⟩⟩
  · rw [doCommit_noModule hgt]
  · rw [doCommit_busy hm hopen]
  · rw [doCommit_notReady hm hidle hshadow]
  · rw [doCommit_starts hm hidle hshadow]

/-! ### A commit that passes (R106, R130) -/

/-- A NORMAL module keeps its throttle (R106). -/
theorem throttleTakesCommit_normal {m : ModuleId} {s : State} (p : Profile)
    (h : (moduleAt s m).throttle.state = .normal) : throttleTakesCommit m p s = s := by
  simp only [throttleTakesCommit, h]

/-- An UNPROFILED module becomes NORMAL, with a notice (R106). -/
theorem throttleTakesCommit_unprofiled {m : ModuleId} {s : State} (p : Profile)
    (h : (moduleAt s m).throttle.state = .unprofiled) : throttleTakesCommit m p s =
      offer (.throttleNotice m .unprofiled .normal .commit 0 0)
        (setThrottle m { (moduleAt s m).throttle with
          state := .normal, clampBackoff := 0, strikes := 0, holdTimer := none } s) := by
  simp only [throttleTakesCommit, h]
  exact notice_setThrottle ..

/-- Settles O39: the profile in force leaves the throttle context as it was, and the throttle's part acts by it. -/
theorem aSuccessfulCommitPutsTheProfileInForce : Obligations.ASuccessfulCommitPutsTheProfileInForce := by
  intro m check s hlong hpasses t
  refine ⟨_, committedGrade_committed m s, ?_⟩
  intro s1
  have hthrottle : (moduleAt s1 m).throttle = t := profileInForce_throttle ..
  have hexec := exec_commitCompletion_passed hlong hpasses
  refine ⟨fun hnormal => ?_, fun hunprofiled => ?_⟩
  · rw [hexec, throttleTakesCommit_normal s.shadow (by rw [hthrottle]; exact hnormal)]
  · rw [hexec, throttleTakesCommit_unprofiled s.shadow (by rw [hthrottle]; exact hunprofiled), hthrottle]

/-! ### A commit that fails (R131) -/

theorem failureWord_eq_code (f : CommitFailure) : failureWord f = failureCode f := by
  cases f <;> rfl

theorem completeCommit_failed {check : CheckValue} {s : State} {f : CommitFailure}
    (h : commitFailure s.shadow check = some f) (m : ModuleId) : completeCommit m check s =
      answered 0x0009 .failed [wordOf m.val, failureCode f] { s with shadowState := .ready, longCommand := .none } := by
  rw [completeCommit, h, ← failureWord_eq_code]
  rfl

/-- Settles O41: the commit in progress completes by its failed condition, which ends it with nothing put in force. -/
theorem aFailedCommitLeavesTheStore : Obligations.AFailedCommitLeavesTheStore := by
  intro s m check f hlong hfails
  have hexec : exec .commitCompletion s = .next (completeCommit m check s) := by
    show execCommitCompletion s = _
    rw [execCommitCompletion, hlong]
  rw [hexec, completeCommit_failed hfails]

end Sys2Proof.Machine
end

section
/-! ### The two ports and the arbiter: what each arrival does (R134 to R142) -/

namespace Sys2Proof.Machine

open Sys2Proof.Claim

/-! ### A frame is sorted as the command that travels in it (R137, R145 to R147) -/

theorem sortForward_sampleFrame (p : PathId) (spare : BitVec 9) (position : Word) (samples : List Word) (s : State) :
    sortForward (sampleFrame p spare position samples) s =
      takeSample p (sampleFrame p spare position samples) position.toNat s := by
  have hpath : framePath (sampleFrame p spare position samples) = p := framePath_path (by decide) spare p _
  have hbody : (sampleFrame p spare position samples).body = position :: samples := rfl
  simp [sortForward, hpath, hbody]

theorem sortForward_burstOpenFrame (p : PathId) (spare : BitVec 9) (declared level : Word) (s : State) :
    sortForward (burstOpenFrame p spare declared level) s = takeBurstOpen p spare declared level s := by
  have hpath : framePath (burstOpenFrame p spare declared level) = p := framePath_path (by decide) spare p _
  have hspare : frameSpare (burstOpenFrame p spare declared level) = spare := frameSpare_path (by decide) spare p _
  have hbody : (burstOpenFrame p spare declared level).body = [declared, level] := rfl
  simp [sortForward, hpath, hspare, hbody, kindSample, kindBurstOpen]

theorem sortForward_burstCloseFrame (p : PathId) (spare : BitVec 9) (s : State) :
    sortForward (burstCloseFrame p spare) s = takeBurstClose p spare s := by
  have hpath : framePath (burstCloseFrame p spare) = p := framePath_path (by decide) spare p _
  have hspare : frameSpare (burstCloseFrame p spare) = spare := frameSpare_path (by decide) spare p _
  simp [sortForward, hpath, hspare, kindSample, kindBurstOpen, kindBurstClose]

theorem sortForward_levelStepFrame (p : PathId) (spare : BitVec 9) (level : Word) (s : State) :
    sortForward (levelStepFrame p spare level) s = takeLevelStep p spare level s := by
  have hpath : framePath (levelStepFrame p spare level) = p := framePath_path (by decide) spare p _
  have hspare : frameSpare (levelStepFrame p spare level) = spare := frameSpare_path (by decide) spare p _
  have hbody : (levelStepFrame p spare level).body = [level] := rfl
  simp [sortForward, hpath, hspare, hbody, kindSample, kindBurstOpen, kindBurstClose, kindLevelStep]

theorem sortForward_controlFrame (code : Word) (params : List Word) (s : State) :
    sortForward (controlFrame s.nodeNumber code params) s = takeControl code params s := by
  have hmatches : frameMatches (controlFrame s.nodeNumber code params) s = true :=
    beq_iff_eq.mpr (frameNode_node (by decide) s.nodeNumber _)
  have hbody : (controlFrame s.nodeNumber code params).body = code :: params := rfl
  simp [sortForward, hmatches, hbody, kindSample, kindBurstOpen, kindBurstClose, kindLevelStep, kindControl]

theorem sortForward_segmentFrame (index : Word) (words : List Word) (s : State) :
    sortForward (segmentFrame s.nodeNumber index words) s = takeSegment index words s := by
  have hmatches : frameMatches (segmentFrame s.nodeNumber index words) s = true :=
    beq_iff_eq.mpr (frameNode_node (by decide) s.nodeNumber _)
  have hbody : (segmentFrame s.nodeNumber index words).body = index :: words := rfl
  simp [sortForward, hmatches, hbody, kindSample, kindBurstOpen, kindBurstClose, kindLevelStep, kindControl,
    kindSegment]

/-- A port that gives a frame to two handlers with one effect does the same with both. -/
theorem modemPort_congr (f : Frame) {handler handler' : State → State} {s : State} (h : handler s = handler' s) :
    modemPort f handler s = modemPort f handler' s := by
  unfold modemPort takeForward
  rw [h]

/-- A CONTROL command is taken as the frame of its code and its parameter words. -/
theorem controlArrives_eq_sorted (code : Word) (params : List Word) (s : State) :
    controlArrives code params (takeControl code params) s =
      modemPort (controlFrame s.nodeNumber code params) (sortForward (controlFrame s.nodeNumber code params)) s :=
  modemPort_congr _ (sortForward_controlFrame code params s).symm

/-- Settles O55: each handler has the effect of sorting the frame that its command travels in. -/
theorem everyForwardCommandIsTakenAsItsFrame : Obligations.EveryForwardCommandIsTakenAsItsFrame := by
  intro c f s _ hf
  have control (code : Word) (params : List Word) (u : State) :
      Host.Outcome.next (controlArrives code params (takeControl code params) u) =
        (.next (modemPort (controlFrame u.nodeNumber code params)
          (sortForward (controlFrame u.nodeNumber code params)) u) : Host.Outcome State Fault Refusal) :=
    congrArg Host.Outcome.next (controlArrives_eq_sorted code params u)
  cases c with
  | sample p spare position samples =>
    cases hf
    exact congrArg Host.Outcome.next (modemPort_congr _ (sortForward_sampleFrame ..).symm)
  | burstOpen p spare declared level =>
    cases hf
    exact congrArg Host.Outcome.next (modemPort_congr _ (sortForward_burstOpenFrame ..).symm)
  | burstClose p spare =>
    cases hf
    exact congrArg Host.Outcome.next (modemPort_congr _ (sortForward_burstCloseFrame ..).symm)
  | levelStep p spare level =>
    cases hf
    exact congrArg Host.Outcome.next (modemPort_congr _ (sortForward_levelStepFrame ..).symm)
  | segment index words =>
    cases hf
    exact congrArg Host.Outcome.next (modemPort_congr _ (sortForward_segmentFrame ..).symm)
  | forwardPassThrough => cases hf; rfl
  | forwardFrameFailingItsCheck => cases hf; rfl
  | identify params => cases hf; exact control (commandCode .identify) params s
  | readStatus params => cases hf; exact control (commandCode .readStatus) params s
  | setPath params => cases hf; exact control (commandCode .setPath) params s
  | setModule params => cases hf; exact control (commandCode .setModule) params s
  | setLimits params => cases hf; exact control (commandCode .setLimits) params s
  | setDevice params => cases hf; exact control (commandCode .setDevice) params s
  | loadOpen params => cases hf; exact control (commandCode .loadOpen) params s
  | loadAbort params => cases hf; exact control (commandCode .loadAbort) params s
  | commit params => cases hf; exact control (commandCode .commit) params s
  | govern params => cases hf; exact control (commandCode .govern) params s
  | standby params => cases hf; exact control (commandCode .standby) params s
  | clearLatch params => cases hf; exact control (commandCode .clearLatch) params s
  | snapshot params => cases hf; exact control (commandCode .snapshot) params s
  | readEntry params => cases hf; exact control (commandCode .readEntry) params s
  | runTests params => cases hf; exact control (commandCode .runTests) params s
  | softRestart params => cases hf; exact control (commandCode .softRestart) params s
  | hardReset params a b => cases hf; exact control (commandCode .hardReset) params { s with nsel1 := a, nsel0 := b }
  | unknownCommand code params => cases hf; exact control code params s
  | _ => cases hf

/-! ### Frames that the part does not read (R137) -/

/-- The kinds of the forward lane that no block reads, and CONTROL and SEGMENT frames of other nodes. -/
def Unread (f : Frame) (s : State) : Prop :=
  (4 < frameKind f ∧ frameKind f ≠ 8 ∧ frameKind f ≠ 9) ∨ frameKind f = 0 ∨
    ((frameKind f = 8 ∨ frameKind f = 9) ∧ frameNode f ≠ s.nodeNumber.val)

theorem sortForward_unread {f : Frame} {s : State} (h : Unread f s) : sortForward f s = send f s := by
  have hmatches : frameMatches f s = true ↔ frameNode f = s.nodeNumber.val := beq_iff_eq
  unfold Unread at h
  have hsample : frameKind f ≠ kindSample := by unfold kindSample; omega
  have hopen : frameKind f ≠ kindBurstOpen := by unfold kindBurstOpen; omega
  have hclose : frameKind f ≠ kindBurstClose := by unfold kindBurstClose; omega
  have hstep : frameKind f ≠ kindLevelStep := by unfold kindLevelStep; omega
  have hcontrol : ¬ (frameKind f = kindControl ∧ frameMatches f s = true) := by
    rw [hmatches]
    unfold kindControl
    omega
  have hsegment : ¬ (frameKind f = kindSegment ∧ frameMatches f s = true) := by
    rw [hmatches]
    unfold kindSegment
    omega
  rw [sortForward, if_neg hsample, if_neg hopen, if_neg hclose, if_neg hstep, if_neg hcontrol, if_neg hsegment]

/-! ### The sending of the forward output (R137) -/

theorem exec_forwardOutputSent_running {s : State} (h : s.deviceState ≠ .offline) :
    exec .forwardOutputSent s =
      .next (takeWaiting s.modemWaiting { s with forwardOutput := s.forwardOutput.tail }) := if_neg h

theorem exec_forwardOutputSent_empty {s : State} (h : s.deviceState ≠ .offline) (ho : s.forwardOutput = []) :
    exec .forwardOutputSent s = .next (takeWaiting s.modemWaiting s) := by
  have hsame : { s with forwardOutput := s.forwardOutput.tail } = s := by rw [ho, List.tail_nil, ← ho]
  rw [exec_forwardOutputSent_running h, hsame]

/-- With the output not empty, or with nothing waiting, no frame is taken. -/
theorem takeWaiting_takesNone {fs : List Frame} {s : State} (h : fs = [] ∨ s.forwardOutput ≠ []) :
    takeWaiting fs s = { s with modemWaiting := fs } := by
  cases fs with
  | nil => rfl
  | cons f fs => exact if_neg (h.resolve_left (List.cons_ne_nil f fs))

theorem takeWaiting_takesFirst {s : State} (h : s.forwardOutput = []) (f : Frame) (fs : List Frame) :
    takeWaiting (f :: fs) s = takeWaiting fs (takeFrame f { s with modemWaiting := fs }) := if_pos h

/-- Settles O29: at an open port a frame fails its check, or is sorted and leaves; at a busy one it waits; the waiting
frames are taken in turn, each on the part as the one before it left it. -/
theorem theModemPortChecksPassesAndWaits : Obligations.TheModemPortChecksPassesAndWaits := by
  intro s hon
  refine ⟨fun f hopen => ⟨fun hfails => ?_, fun hpasses hunread => ?_⟩, fun f hbusy => ?_, fun hnone => ?_,
    fun f fs hsent hwaiting => ?_⟩
  · obtain ⟨-, hempty, hnowait⟩ := hopen
    exact congrArg Host.Outcome.next (modemPort_failing _ hon hempty hnowait hfails)
  · obtain ⟨-, hempty, hnowait⟩ := hopen
    have hsorted : modemPort f (sortForward f) s = { s with forwardOutput := [f] } := by
      rw [modemPort_free _ hon hempty hnowait hpasses, sortForward_unread hunread, send_first hempty]
    exact congrArg Host.Outcome.next hsorted
  · exact congrArg Host.Outcome.next (modemPort_busy _ hon hbusy)
  · rw [exec_forwardOutputSent_running hon, takeWaiting_takesNone hnone]
  · intro t
    obtain ⟨hstill, hoffline⟩ : t.modemWaiting = fs ∧ (t.deviceState = .offline → s.deviceState = .offline) :=
      takeFrame_keepsWaiting ..
    have hsame : { t with modemWaiting := fs } = t := by rw [← hstill]
    rw [exec_forwardOutputSent_running hon, hsent, hwaiting, takeWaiting_takesFirst rfl]
    refine ⟨fun hfull => ?_, fun hempty => ?_⟩
    · rw [takeWaiting_takesNone (.inr hfull)]
    · rw [hsame, exec_forwardOutputSent_empty (fun h => hon (hoffline h)) hempty, hstill]

/-! ### Return frames and the arbiter's choice (R140 to R143) -/

theorem sortReturn_unread {f : Frame} (h : frameKind f ≠ 12) (s : State) : sortReturn f s = s := by
  unfold sortReturn
  split
  · exact if_neg h
  · rfl

/-- Settles O30: a damaged frame latches its condition and a passing one is not read; both then enter the buffer. -/
theorem aReturnFrameEntersTheBuffer : Obligations.AReturnFrameEntersTheBuffer := by
  intro f s hon
  refine ⟨fun hfails => ?_, fun hpasses hkind => ?_⟩
  · have hentered : radioPort f (sortReturn f) s = buffered f (latch 1 s) := by
      rw [radioPort_failing _ hon hfails, enterBuffer_eq_buffered]
      rfl
    exact congrArg Host.Outcome.next hentered
  · have hentered : radioPort f (sortReturn f) s = buffered f s := by
      rw [radioPort_passing _ hon hpasses, sortReturn_unread hkind, enterBuffer_eq_buffered]
    exact congrArg Host.Outcome.next hentered

/-- Settles O31: the arbiter's choice is the one that the statement spells, word by word of a REPORT frame. -/
theorem theMergeArbiterChooses : Obligations.TheMergeArbiterChooses := by
  intro s hon
  have hchosen : exec .mergeArbiterChoice s = .next (mergeChoice s) := if_neg hon
  rw [hchosen, mergeChoice_eq_chosen]

end Sys2Proof.Machine
end

section
/-! ### The return side's bounds, and what keeps the link within its laws (R137, R141, R142, R161) -/

namespace Sys2Proof.Machine

/-! ### The Report Queue (R161) -/

/-- The bounds of R161 on what the queue holds. -/
def QueueWithin (rs : List Report) : Prop :=
  rs.length ≤ 16 ∧ (rs.filter fun r => reportClass r != .answer).length ≤ 14

theorem queueWithin_answer {r : Report} {rs : List Report} (h : QueueWithin rs) (hc : reportClass r = .answer)
    (hroom : rs.length < 16) : QueueWithin (rs ++ [r]) := by
  obtain ⟨-, hshared⟩ := h
  refine ⟨?_, ?_⟩
  · simpa using hroom
  · simpa [List.filter_append, hc] using hshared

/-- Below 14 entries any report may enter. -/
theorem queueWithin_shared (r : Report) {rs : List Report} (hroom : rs.length < 14) : QueueWithin (rs ++ [r]) := by
  have hlength : (rs ++ [r]).length ≤ 14 := by simpa using hroom
  exact ⟨Nat.le_trans hlength (by decide), Nat.le_trans (List.length_filter_le ..) hlength⟩

theorem shared_dropOldestVerdict {rs : List Report} (h : rs.any isVerdict = true) :
    ((dropOldestVerdict rs).filter fun r => reportClass r != .answer).length + 1 =
      (rs.filter fun r => reportClass r != .answer).length := by
  induction rs with
  | nil => cases h
  | cons b bs ih =>
    unfold dropOldestVerdict
    by_cases hb : isVerdict b = true
    · have hclass : reportClass b = .verdict := beq_iff_eq.mp hb
      simp [hb, hclass]
    · have hbs : bs.any isVerdict = true := by simpa [hb] using h
      rw [if_neg hb, List.filter_cons, List.filter_cons]
      split
      · exact congrArg (· + 1) (ih hbs)
      · exact ih hbs

/-- A notice that takes the oldest verdict's place leaves the counts as they were. -/
theorem queueWithin_displaced (r : Report) {rs : List Report} (h : QueueWithin rs) (hv : rs.any isVerdict = true) :
    QueueWithin (dropOldestVerdict rs ++ [r]) := by
  obtain ⟨hlength, hshared⟩ := h
  have hdropped := dropOldestVerdict_length rs hv
  have hdroppedShared := shared_dropOldestVerdict hv
  have hone : ([r].filter fun r => reportClass r != .answer).length ≤ 1 := List.length_filter_le ..
  refine ⟨?_, ?_⟩
  · simp only [List.length_append, List.length_singleton]
    omega
  · rw [List.filter_append, List.length_append]
    omega

/-! ### The buffer, the lane and the arbiter's choice (R141, R142) -/

/-- The buffer, the run count and the queue are within their bounds. -/
def BoundsHold (s : State) : Prop := s.returnBuffer.length ≤ 4 ∧ s.runCount ≤ 4 ∧ QueueWithin s.reports

/-- The bounds hold, and an idle lane has nothing to send. -/
def ReturnsWithin (s : State) : Prop :=
  BoundsHold s ∧ (s.returnLane = none → s.returnBuffer = [] ∧ s.reports = [])

theorem queueWithin_tail {r : Report} {rs : List Report} (h : QueueWithin (r :: rs)) : QueueWithin rs :=
  ⟨Nat.le_trans (Nat.le_succ _) h.1,
    Nat.le_trans ((List.sublist_cons_self r rs).filter _).length_le h.2⟩

/-- A choice takes from the buffer or from the queue, and leaves the lane idle only when both are empty. -/
theorem mergeChoice_returnsWithin {s : State} (h : BoundsHold s) : ReturnsWithin (mergeChoice s) := by
  obtain ⟨hbuffer, hrun, hqueue⟩ := h
  unfold mergeChoice
  split
  · next hb hr => exact ⟨⟨hbuffer, hrun, hqueue⟩, fun _ => ⟨hb, hr⟩⟩
  · next f fs hb hr =>
    rw [hb] at hbuffer
    exact ⟨⟨Nat.le_of_succ_le hbuffer, Nat.zero_le 4, hqueue⟩, fun e => nomatch e⟩
  · next r rs hb hr =>
    rw [hr] at hqueue
    exact ⟨⟨hbuffer, Nat.zero_le 4, queueWithin_tail hqueue⟩, fun e => nomatch e⟩
  · next f fs r rs hb hr =>
    split
    · next hlt =>
      rw [hb] at hbuffer
      exact ⟨⟨Nat.le_of_succ_le hbuffer, hlt, hqueue⟩, fun e => nomatch e⟩
    · rw [hr] at hqueue
      exact ⟨⟨hbuffer, Nat.zero_le 4, queueWithin_tail hqueue⟩, fun e => nomatch e⟩

theorem chooseIfIdle_returnsWithin {s : State} (h : BoundsHold s) : ReturnsWithin (chooseIfIdle s) := by
  cases hlane : s.returnLane with
  | none =>
    rw [chooseIfIdle_idle hlane]
    exact mergeChoice_returnsWithin h
  | some f =>
    have hbusy : s.returnLane.isSome = true := by rw [hlane]; rfl
    rw [chooseIfIdle_busy hbusy]
    exact ⟨h, fun e => nomatch hlane.symm.trans e⟩

theorem enterBuffer_returnsWithin (f : Frame) {s : State} (h : ReturnsWithin s) : ReturnsWithin (enterBuffer f s) := by
  by_cases hroom : s.returnBuffer.length < 4
  · obtain ⟨⟨-, hrun, hqueue⟩, -⟩ := h
    rw [enterBuffer_room hroom]
    refine chooseIfIdle_returnsWithin ⟨?_, hrun, hqueue⟩
    simpa using hroom
  · rw [enterBuffer_full hroom]
    exact h

/-- A report enters where its class has room, and otherwise displaces a verdict or is lost (R161). -/
theorem offer_returnsWithin (r : Report) {s : State} (h : ReturnsWithin s) : ReturnsWithin (offer r s) := by
  have lost : ReturnsWithin (reportLost s) := h
  obtain ⟨⟨hbuffer, hrun, hqueue⟩, -⟩ := h
  have entered (hq : QueueWithin (s.reports ++ [r])) : ReturnsWithin (enqueue r s) :=
    chooseIfIdle_returnsWithin ⟨hbuffer, hrun, hq⟩
  have displaced (hq : QueueWithin (dropOldestVerdict s.reports ++ [r])) :
      ReturnsWithin (enqueue r (reportLost { s with reports := dropOldestVerdict s.reports })) :=
    chooseIfIdle_returnsWithin ⟨hbuffer, hrun, hq⟩
  unfold offer
  split
  · next hclass =>
    split
    · next hroom => exact entered (queueWithin_answer hqueue hclass hroom)
    · exact lost
  · split
    · next hroom => exact entered (queueWithin_shared r hroom)
    · split
      · next hverdict => exact displaced (queueWithin_displaced r hqueue hverdict)
      · exact lost
  · split
    · next hroom => exact entered (queueWithin_shared r hroom)
    · exact lost

/-! ### What an act of the part keeps -/

/-- An act of a block: it leaves the waiting commands and the waiting frames alone, takes no frame from the forward
output, and keeps the return side within its laws. -/
structure KeepsLink (s t : State) : Prop where
  pending : t.pending = s.pending
  waiting : t.modemWaiting = s.modemWaiting
  output : t.forwardOutput = [] → s.forwardOutput = []
  returns : ReturnsWithin s → ReturnsWithin t

/-- An update of none of the fields that the laws read keeps them in the same way, by `⟨rfl, rfl, id, id⟩`. -/
theorem KeepsLink.refl (s : State) : KeepsLink s s := ⟨rfl, rfl, id, id⟩

theorem KeepsLink.trans {s t u : State} (h1 : KeepsLink s t) (h2 : KeepsLink t u) : KeepsLink s u where
  pending := h2.pending.trans h1.pending
  waiting := h2.waiting.trans h1.waiting
  output := h1.output ∘ h2.output
  returns := h2.returns ∘ h1.returns

theorem foldl_keepsLink {α : Type} {f : State → α → State} (h : ∀ s a, KeepsLink s (f s a)) (l : List α)
    (s : State) : KeepsLink s (l.foldl f s) := by
  induction l generalizing s with
  | nil => exact .refl s
  | cons a l ih => exact (h s a).trans (ih (f s a))

theorem ite_keepsLink {s t u : State} {b : Prop} [Decidable b] (ht : b → KeepsLink s t)
    (hu : ¬ b → KeepsLink s u) : KeepsLink s (if b then t else u) := by
  split
  · next h => exact ht h
  · next h => exact hu h

/-! ### The updates of the state -/

theorem setModuleAt_keepsLink (m : ModuleId) (x : ModuleState) (s : State) : KeepsLink s (setModuleAt m x s) :=
  ⟨rfl, rfl, id, id⟩

theorem setPathAt_keepsLink (p : PathId) (x : PathContext) (s : State) : KeepsLink s (setPathAt p x s) :=
  ⟨rfl, rfl, id, id⟩

theorem send_keepsLink (f : Frame) (s : State) : KeepsLink s (send f s) :=
  ⟨rfl, rfl, fun h => (List.append_ne_nil_of_right_ne_nil _ (List.cons_ne_nil f []) h).elim, id⟩

theorem addCondition_keepsLink (c : Condition) (s : State) : KeepsLink s (addCondition c s) := ⟨rfl, rfl, id, id⟩

/-- What is written keeps the laws, and so it does with a report after it. -/
theorem offer_keepsLink (r : Report) {s u : State} (h : KeepsLink s u) : KeepsLink s (offer r u) :=
  h.trans {
    pending := offer_pending r u
    waiting := offer_modemWaiting r u
    output := fun ho => (offer_forwardOutput r u).symm.trans ho
    returns := offer_returnsWithin r }

theorem mergeChoice_keepsLink (s : State) : KeepsLink s (mergeChoice s) where
  pending := by rw [mergeChoice_writes]
  waiting := by rw [mergeChoice_writes]
  output := by
    rw [mergeChoice_writes]
    exact id
  returns h := mergeChoice_returnsWithin h.1

/-- An entry into the buffer writes what a choice writes, and the latched device status. -/
theorem enterBuffer_writes (f : Frame) (s : State) :
    enterBuffer f s = { s with
      returnBuffer := (enterBuffer f s).returnBuffer, returnLane := (enterBuffer f s).returnLane,
      runCount := (enterBuffer f s).runCount, reports := (enterBuffer f s).reports,
      reportGap := (enterBuffer f s).reportGap, status := (enterBuffer f s).status } := by
  by_cases hroom : s.returnBuffer.length < 4
  · rw [enterBuffer_room hroom, chooseIfIdle_writes]
  · rw [enterBuffer_full hroom]
    rfl

theorem enterBuffer_keepsLink (f : Frame) (s : State) : KeepsLink s (enterBuffer f s) where
  pending := by rw [enterBuffer_writes]
  waiting := by rw [enterBuffer_writes]
  output := by
    rw [enterBuffer_writes]
    exact id
  returns := enterBuffer_returnsWithin f

end Sys2Proof.Machine
end

section
/-! ### The link and the queue: every step keeps their bounds (R137, R141, R142, R161) -/

namespace Sys2Proof.Machine

/-! ### Bursts (chapters 4 and 5) -/

theorem lowerBurst_keepsLink (p : PathId) (n : Nat) (s : State) : KeepsLink s (lowerBurst p n s) := by
  cases hb : (pathAt s p).burst with
  | none =>
    rw [lowerBurst_idle hb]
    exact .refl s
  | some b =>
    rw [lowerBurst_burst hb]
    exact ((send_keepsLink ..).trans (setModuleAt_keepsLink ..)).trans (setPathAt_keepsLink ..)

theorem leaveAccounts_keepsLink (m : ModuleId) (b : BurstRecord) (s : State) : KeepsLink s (leaveAccounts m b s) := by
  unfold leaveAccounts
  split
  · exact .refl s
  · exact setModuleAt_keepsLink ..

theorem endBurst_keepsLink (p : PathId) (b : BurstRecord) (s : State) : KeepsLink s (endBurst p b s) :=
  (leaveAccounts_keepsLink ..).trans (setPathAt_keepsLink ..)

theorem truncateBurst_keepsLink (p : PathId) (s : State) : KeepsLink s (truncateBurst p s) := by
  unfold truncateBurst
  split
  · exact .refl s
  · exact ((endBurst_keepsLink ..).trans (send_keepsLink ..)).trans (setPathAt_keepsLink ..)

/-- An admission writes by a pre-emption only. -/
theorem decideAdmission_keepsLink (p : PathId) (length r : Nat) (s : State) :
    KeepsLink s (decideAdmission p length r s).2 := by
  rcases decideAdmission_state p length r s with h | h
  · rw [h]
    exact .refl s
  · rw [h]
    exact foldl_keepsLink (fun u q => lowerBurst_keepsLink q 0 u) _ s

theorem openBurst_keepsLink (p : PathId) (length r : Nat) (s : State) : KeepsLink s (openBurst p length r s).2 := by
  have joined (m : ModuleId) (d : Decision) (u : State) : KeepsLink u (joinAccounts m d length u) := by
    unfold joinAccounts
    split
    · exact .refl u
    · exact setModuleAt_keepsLink ..
  have reported (d : Decision) (u : State) : KeepsLink u (reportVerdict p d length r u) :=
    ite_keepsLink (fun _ => offer_keepsLink _ (.refl u)) fun _ => .refl u
  exact ((((decideAdmission_keepsLink p length r s).trans (joined ..)).trans (reported ..)).trans
    (setPathAt_keepsLink ..)).trans (setPathAt_keepsLink ..)

theorem takeBurstOpen_keepsLink (p : PathId) (spare : BitVec 9) (declared level : Word) (s : State) :
    KeepsLink s (takeBurstOpen p spare declared level s) := by
  have truncated := truncateBurst_keepsLink p s
  unfold takeBurstOpen
  dsimp only
  split
  · exact truncated.trans (send_keepsLink ..)
  · exact (truncated.trans (openBurst_keepsLink ..)).trans (send_keepsLink ..)

theorem takeSample_keepsLink (p : PathId) (f : Frame) (position : Nat) (s : State) :
    KeepsLink s (takeSample p f position s) := by
  have dropped : KeepsLink s (dropFrame p s) := setPathAt_keepsLink ..
  unfold takeSample
  split
  · exact dropped
  · split
    · exact dropped
    · refine ite_keepsLink (fun _ => ?_) fun _ => dropped
      exact ((((send_keepsLink f s).trans (setModuleAt_keepsLink ..)).trans (setModuleAt_keepsLink ..)).trans
        (setPathAt_keepsLink ..)).trans (setPathAt_keepsLink ..)

theorem takeLevelStep_keepsLink (p : PathId) (spare : BitVec 9) (level : Word) (s : State) :
    KeepsLink s (takeLevelStep p spare level s) := by
  unfold takeLevelStep
  split
  · exact setPathAt_keepsLink ..
  · split
    · exact send_keepsLink ..
    · exact ((setModuleAt_keepsLink ..).trans (setPathAt_keepsLink ..)).trans (send_keepsLink ..)

theorem takeBurstClose_keepsLink (p : PathId) (spare : BitVec 9) (s : State) :
    KeepsLink s (takeBurstClose p spare s) := by
  unfold takeBurstClose
  split
  · exact setPathAt_keepsLink ..
  · exact (endBurst_keepsLink ..).trans (send_keepsLink ..)

/-! ### Firings, readings and the ring advance (chapters 2, 3 and 6) -/

theorem notice_keepsLink (m : ModuleId) (old : ThrottleState) (cause : NoticeCause) {s u : State}
    (h : KeepsLink s u) : KeepsLink s (notice m old cause u) := by
  unfold notice
  exact offer_keepsLink _ h

theorem clampEntry_keepsLink (m : ModuleId) (s : State) : KeepsLink s (clampEntry m s) := by
  refine foldl_keepsLink (fun u p => ?_) allPaths s
  rcases clampPath_cases m p u with h | ⟨-, n, h⟩
  · rw [h]
    exact .refl u
  · rw [h]
    exact lowerBurst_keepsLink ..

/-- A change of throttle state with its clamp entry and its notice. -/
theorem enterClamp_keepsLink (m : ModuleId) (t : ThrottleContext) (old : ThrottleState) (cause : NoticeCause)
    (s : State) : KeepsLink s (notice m old cause (clampEntry m (setThrottle m t s))) :=
  notice_keepsLink _ _ _ ((setModuleAt_keepsLink ..).trans (clampEntry_keepsLink ..))

theorem strike_keepsLink (m : ModuleId) (c : Criterion) (p : Profile) (s : State) :
    KeepsLink s (strike m c p s) := by
  unfold strike
  exact enterClamp_keepsLink ..

theorem actOnThrottle_keepsLink (m : ModuleId) (c : Criterion) (s : State) : KeepsLink s (actOnThrottle m c s) := by
  unfold actOnThrottle
  dsimp only
  split
  · exact .refl s
  · split
    · exact .refl s
    · exact .refl s
    · exact setModuleAt_keepsLink ..
    · exact strike_keepsLink ..
    · exact strike_keepsLink ..

theorem fire_keepsLink (m : ModuleId) (c : Criterion) (s : State) : KeepsLink s (fire m c s) :=
  ite_keepsLink (fun _ => (setModuleAt_keepsLink ..).trans (actOnThrottle_keepsLink ..))
    fun _ => setModuleAt_keepsLink ..

/-- What is written keeps the link, and so it does with a firing after it. -/
theorem thenFire_keepsLink {m : ModuleId} {c : Criterion} {fires : Prop} [Decidable fires] {s u : State}
    (h : KeepsLink s u) : KeepsLink s (if fires then fire m c u else u) :=
  ite_keepsLink (fun _ => h.trans (fire_keepsLink ..)) fun _ => h

theorem readTelemetry_keepsLink (a b c d e : Word) (s : State) : KeepsLink s (readTelemetry a b c d e s) := by
  have where_present {t : State} (u : State) (i : Nat) (h : KeepsLink u t) :
      KeepsLink u (if b.getLsbD i then t else u) := ite_keepsLink (fun _ => h) fun _ => .refl u
  unfold readTelemetry
  split
  · exact .refl s
  · exact ((where_present _ 0 (setModuleAt_keepsLink ..)).trans
      (where_present _ 1 (thenFire_keepsLink (setModuleAt_keepsLink ..)))).trans
      (where_present _ 2 (thenFire_keepsLink (setModuleAt_keepsLink ..)))

theorem sortReturn_keepsLink (f : Frame) (s : State) : KeepsLink s (sortReturn f s) := by
  unfold sortReturn
  split
  · exact ite_keepsLink (fun _ => readTelemetry_keepsLink ..) fun _ => .refl s
  · exact .refl s

theorem expireSilence_keepsLink (m : ModuleId) (s : State) : KeepsLink s (expireSilence m s) :=
  ite_keepsLink (fun _ => (setModuleAt_keepsLink ..).trans (fire_keepsLink ..)) fun _ => setModuleAt_keepsLink ..

theorem expireHold_keepsLink (m : ModuleId) (s : State) : KeepsLink s (expireHold m s) := by
  unfold expireHold
  dsimp only
  split
  · split
    · exact setModuleAt_keepsLink ..
    · exact .refl s
  · exact notice_keepsLink _ _ _ (setModuleAt_keepsLink ..)

theorem takeReleaseStep_keepsLink (m : ModuleId) (s : State) : KeepsLink s (takeReleaseStep m s) := by
  unfold takeReleaseStep
  dsimp only
  split
  · exact ite_keepsLink (fun _ => notice_keepsLink _ _ _ (setModuleAt_keepsLink ..)) fun _ => setModuleAt_keepsLink ..
  · exact .refl s

theorem advance_keepsLink (m : ModuleId) (s : State) : KeepsLink s (advance m s) :=
  (((setModuleAt_keepsLink ..).trans (thenFire_keepsLink (setModuleAt_keepsLink ..))).trans
    (takeReleaseStep_keepsLink ..)).trans (ite_keepsLink (fun _ => setModuleAt_keepsLink ..) fun _ => .refl _)

theorem passTime_keepsLink (s : State) : KeepsLink s (passTime s) := by
  unfold passTime
  refine ite_keepsLink (fun _ => .refl s) fun _ => ?_
  have modules (u : State) (m : ModuleId) : KeepsLink u (setModuleAt m (tickModule (moduleAt u m)) u) :=
    setModuleAt_keepsLink ..
  have paths (u : State) (p : PathId) : KeepsLink u (setPathAt p (tickPath (pathAt u p)) u) :=
    setPathAt_keepsLink ..
  refine .trans ((foldl_keepsLink modules allModules s).trans (foldl_keepsLink paths allPaths _)) ?_
  exact ⟨rfl, rfl, id, id⟩

/-! ### Answers and DEVICE STATE reports (R153, R165) -/

theorem answer_keepsLink (code : Word) (o : AnswerOutcome) (detail : List Word) {s u : State} (h : KeepsLink s u) :
    KeepsLink s (answer code o detail u) := by
  unfold answer
  exact offer_keepsLink _ h

theorem done_keepsLink (cmd : Command) (detail : List Word) {s u : State} (h : KeepsLink s u) :
    KeepsLink s (done cmd detail u) := answer_keepsLink _ _ _ h

theorem refuse_keepsLink (cmd : Command) (o : AnswerOutcome) (s : State) : KeepsLink s (refuse cmd o s) :=
  answer_keepsLink _ _ _ (.refl s)

theorem reportDeviceState_keepsLink {s u : State} (h : KeepsLink s u) : KeepsLink s (reportDeviceState u) := by
  unfold reportDeviceState
  exact offer_keepsLink _ h

/-! ### Loads, the long operations and what ends them (chapters 7 and 10) -/

theorem endLoad_keepsLink (l : LoadContext) (o : LoadOutcome) (n : Option Nat) (sh : ShadowState) (s : State) :
    KeepsLink s (endLoad l o n sh s) := offer_keepsLink _ ⟨rfl, rfl, id, id⟩

theorem takeSegment_keepsLink (index : Word) (words : List Word) (s : State) :
    KeepsLink s (takeSegment index words s) := by
  unfold takeSegment
  split
  · exact addCondition_keepsLink ..
  · refine ite_keepsLink (fun _ => ?_) fun _ => endLoad_keepsLink ..
    exact ite_keepsLink (fun _ => offer_keepsLink _ ⟨rfl, rfl, id, id⟩) fun _ => ⟨rfl, rfl, id, id⟩

theorem abandonLongCommand_keepsLink (s : State) : KeepsLink s (abandonLongCommand s) := by
  unfold abandonLongCommand
  split
  · exact .refl s
  · exact ⟨rfl, rfl, id, id⟩
  · exact ite_keepsLink (fun _ => ⟨rfl, rfl, id, id⟩) fun _ => ⟨rfl, rfl, id, id⟩

theorem cutLoad_keepsLink (s : State) : KeepsLink s (cutLoad s) := by
  unfold cutLoad
  split
  · exact .refl s
  · exact ⟨rfl, rfl, id, id⟩

theorem abandonAll_keepsLink (s : State) : KeepsLink s (abandonScrubs (cutLoad (abandonLongCommand s))) :=
  ((abandonLongCommand_keepsLink s).trans (cutLoad_keepsLink _)).trans
    (foldl_keepsLink (fun _ _ => setModuleAt_keepsLink ..) allModules _)

theorem enterLockdown_keepsLink (cause : LockdownCause) {s u : State} (h : KeepsLink s u) :
    KeepsLink s (enterLockdown cause u) := by
  have locked (v : State) : KeepsLink v { v with lockdownCause := cause, deviceState := .lockdown } :=
    ⟨rfl, rfl, id, id⟩
  exact reportDeviceState_keepsLink ((h.trans (abandonAll_keepsLink u)).trans (locked _))

theorem completeScrub_keepsLink (m : ModuleId) (s : State) : KeepsLink s (completeScrub m s) := by
  have ended : KeepsLink s (setScrub m false s) := setModuleAt_keepsLink ..
  unfold completeScrub
  dsimp only
  split
  · exact ite_keepsLink (fun _ => ended) fun _ => enterLockdown_keepsLink _ ended
  · exact ended

theorem completePowerUp_keepsLink (table ring : Option StoreFault) (s : State) :
    KeepsLink s (completePowerUp table ring s) :=
  ite_keepsLink (fun _ => enterLockdown_keepsLink _ ⟨rfl, rfl, id, id⟩)
    fun _ => reportDeviceState_keepsLink ⟨rfl, rfl, id, id⟩

theorem completeTestRun_keepsLink (tests : TestSet) (table ring : Option StoreFault) (loop : Option LoopFault)
    (s : State) : KeepsLink s (completeTestRun tests table ring loop s) := by
  have tested (fs : List (SelfTest × TestReason)) (r : TestResults) : KeepsLink s
      (if critical fs then enterLockdown .test { s with testResults := r, ringFault := none }
        else { s with testResults := r, ringFault := none, deviceState := .standby }) :=
    ite_keepsLink (fun _ => enterLockdown_keepsLink _ ⟨rfl, rfl, id, id⟩) fun _ => ⟨rfl, rfl, id, id⟩
  have ended (u : State) : KeepsLink u { u with longCommand := .none } := ⟨rfl, rfl, id, id⟩
  exact answer_keepsLink _ _ _ ((tested _ _).trans (ended _))

theorem throttleTakesCommit_keepsLink (m : ModuleId) (p : Profile) (s : State) :
    KeepsLink s (throttleTakesCommit m p s) := by
  unfold throttleTakesCommit
  dsimp only
  split
  · exact notice_keepsLink _ _ _ (setModuleAt_keepsLink ..)
  · exact .refl s
  · exact ite_keepsLink (fun _ => enterClamp_keepsLink ..) fun _ => .refl s
  · exact ite_keepsLink (fun _ => enterClamp_keepsLink ..) fun _ => .refl s
  · exact setModuleAt_keepsLink ..

theorem completeCommit_keepsLink (m : ModuleId) (check : CheckValue) (s : State) :
    KeepsLink s (completeCommit m check s) := by
  have ended (u : State) : KeepsLink u (endCommit u) := ⟨rfl, rfl, id, id⟩
  unfold completeCommit
  split
  · exact answer_keepsLink _ _ _
      (((setModuleAt_keepsLink ..).trans (throttleTakesCommit_keepsLink ..)).trans (ended _))
  · exact answer_keepsLink _ _ _ (ended s)

/-! ### Commands (chapter 9) -/

theorem doReadStatus_keepsLink (params : List Word) (s : State) : KeepsLink s (doReadStatus params s) := by
  have unlatched : KeepsLink s { s with status := 0 } := ⟨rfl, rfl, id, id⟩
  have cleared : KeepsLink s (clearLatchedSets s) :=
    unlatched.trans (foldl_keepsLink (fun _ _ => setModuleAt_keepsLink ..) allModules _)
  unfold doReadStatus
  split
  · split
    · exact done_keepsLink _ _ (ite_keepsLink (fun _ => cleared) fun _ => .refl s)
    · exact refuse_keepsLink ..
  · exact refuse_keepsLink ..

theorem doSnapshot_keepsLink (params : List Word) (s : State) : KeepsLink s (doSnapshot params s) := by
  have cleared : KeepsLink s (clearCounters s) := foldl_keepsLink (fun _ _ => setPathAt_keepsLink ..) allPaths s
  unfold doSnapshot
  split
  · split
    · exact done_keepsLink _ _ (ite_keepsLink (fun _ => cleared) fun _ => .refl s)
    · exact refuse_keepsLink ..
  · exact refuse_keepsLink ..

theorem doReadEntry_keepsLink (params : List Word) (s : State) : KeepsLink s (doReadEntry params s) := by
  unfold doReadEntry
  split
  · split
    · exact done_keepsLink _ _ (.refl s)
    · exact refuse_keepsLink ..
  · exact refuse_keepsLink ..

theorem doSetPath_keepsLink (params : List Word) (s : State) : KeepsLink s (doSetPath params s) := by
  unfold doSetPath
  split
  · split
    · exact ite_keepsLink (fun _ => refuse_keepsLink ..) fun _ =>
        ite_keepsLink (fun _ => refuse_keepsLink ..) fun _ => done_keepsLink _ _ (setPathAt_keepsLink ..)
    · exact refuse_keepsLink ..
  · exact refuse_keepsLink ..

theorem doSetModule_keepsLink (params : List Word) (s : State) : KeepsLink s (doSetModule params s) := by
  unfold doSetModule
  split
  · split
    · exact done_keepsLink _ _ (setModuleAt_keepsLink ..)
    · exact refuse_keepsLink ..
  · exact refuse_keepsLink ..

theorem doSetLimits_keepsLink (params : List Word) (s : State) : KeepsLink s (doSetLimits params s) := by
  unfold doSetLimits
  split
  · split
    · exact done_keepsLink _ _ (setModuleAt_keepsLink ..)
    · exact refuse_keepsLink ..
  · exact refuse_keepsLink ..

theorem doSetDevice_keepsLink (params : List Word) (s : State) : KeepsLink s (doSetDevice params s) := by
  unfold doSetDevice
  split
  · split
    · exact done_keepsLink _ _ ⟨rfl, rfl, id, id⟩
    · exact refuse_keepsLink ..
  · exact refuse_keepsLink ..

theorem doLoadOpen_keepsLink (params : List Word) (s : State) : KeepsLink s (doLoadOpen params s) := by
  unfold doLoadOpen
  split
  · exact ite_keepsLink (fun _ => refuse_keepsLink ..) fun _ =>
      ite_keepsLink (fun _ => refuse_keepsLink ..) fun _ => done_keepsLink _ _ ⟨rfl, rfl, id, id⟩
  · exact refuse_keepsLink ..

theorem doLoadAbort_keepsLink (params : List Word) (s : State) : KeepsLink s (doLoadAbort params s) := by
  unfold doLoadAbort
  split
  · exact done_keepsLink _ _ (endLoad_keepsLink ..)
  · exact refuse_keepsLink ..

theorem doCommit_keepsLink (params : List Word) (s : State) : KeepsLink s (doCommit params s) := by
  unfold doCommit
  split
  · split
    · exact refuse_keepsLink ..
    · exact ite_keepsLink (fun _ => refuse_keepsLink ..) fun _ =>
        ite_keepsLink (fun _ => refuse_keepsLink ..) fun _ => ⟨rfl, rfl, id, id⟩
  · exact refuse_keepsLink ..

theorem doGovern_keepsLink (params : List Word) (s : State) : KeepsLink s (doGovern params s) := by
  refine ite_keepsLink (fun _ => ?_) fun _ => refuse_keepsLink ..
  split
  · exact answer_keepsLink _ _ _ (.refl s)
  · exact done_keepsLink _ _ ⟨rfl, rfl, id, id⟩

theorem doStandby_keepsLink (params : List Word) (s : State) : KeepsLink s (doStandby params s) :=
  ite_keepsLink (fun _ => done_keepsLink _ _ ⟨rfl, rfl, id, id⟩) fun _ => refuse_keepsLink ..

theorem doClearLatch_keepsLink (params : List Word) (s : State) : KeepsLink s (doClearLatch params s) := by
  unfold doClearLatch
  split
  · split
    · exact refuse_keepsLink ..
    · exact ite_keepsLink (fun _ => done_keepsLink _ _ (notice_keepsLink _ _ _ (setModuleAt_keepsLink ..)))
        fun _ => refuse_keepsLink ..
  · exact refuse_keepsLink ..

theorem doRunTests_keepsLink (params : List Word) (s : State) : KeepsLink s (doRunTests params s) := by
  unfold doRunTests
  split
  · exact ite_keepsLink (fun _ => refuse_keepsLink ..) fun _ =>
      ite_keepsLink (fun _ => refuse_keepsLink ..) fun _ =>
      ite_keepsLink (fun _ => refuse_keepsLink ..) fun _ =>
      ite_keepsLink (fun _ => ⟨rfl, rfl, id, id⟩) fun _ => ⟨rfl, rfl, id, id⟩
  · exact refuse_keepsLink ..

theorem queueWithin_nil : QueueWithin [] := ⟨Nat.zero_le _, Nat.zero_le _⟩

/-- SOFT RESTART empties the queue; its answer is then the only report (R175). -/
theorem doSoftRestart_keepsLink (params : List Word) (s : State) : KeepsLink s (doSoftRestart params s) := by
  have emptied (u : State) :
      KeepsLink u { u with reports := [], reportGap := false, deviceState := .standby } := by
    refine ⟨rfl, rfl, id, fun ⟨⟨hbuffer, hrun, _⟩, hidle⟩ => ?_⟩
    exact ⟨⟨hbuffer, hrun, queueWithin_nil⟩, fun hlane => ⟨(hidle hlane).1, rfl⟩⟩
  have ended := (abandonAll_keepsLink s).trans
    (foldl_keepsLink (fun u p => truncateBurst_keepsLink p u) allPaths _)
  exact done_keepsLink _ _ (ended.trans (emptied _))

/-- A reset leaves the return side empty, whatever is on the lane. -/
theorem returnsWithin_empty {s : State} (hb : s.returnBuffer = []) (hn : s.runCount = 0) (hr : s.reports = []) :
    ReturnsWithin s := by
  refine ⟨⟨?_, ?_, ?_⟩, fun _ => ⟨hb, hr⟩⟩
  · rw [hb]
    exact Nat.zero_le 4
  · rw [hn]
    exact Nat.zero_le 4
  · rw [hr]
    exact queueWithin_nil

/-- HARD RESET is taken from the link, so the forward output that it empties is empty (R137, R167). -/
theorem hardReset_keepsLink {s : State} (h : s.forwardOutput = []) : KeepsLink s (hardReset s) :=
  ⟨rfl, rfl, fun _ => h, fun _ => returnsWithin_empty rfl rfl rfl⟩

/-! ### The Command Unit and the sorting of frames -/

theorem takeCommand_keepsLink {cmd : Command} {effect : List Word → State → State} {params : List Word} {s : State}
    (h : KeepsLink s (effect params s)) : KeepsLink s (takeCommand cmd effect params s) := by
  unfold takeCommand
  refine ite_keepsLink (fun _ => addCondition_keepsLink ..) fun _ => ?_
  split
  · exact refuse_keepsLink ..
  · exact ite_keepsLink (fun _ => refuse_keepsLink ..) fun _ => h

theorem takeControl_keepsLink (code : Word) (params : List Word) {s : State} (ho : s.forwardOutput = []) :
    KeepsLink s (takeControl code params s) := by
  unfold takeControl
  split
  · exact ite_keepsLink (fun _ => addCondition_keepsLink ..) fun _ => answer_keepsLink _ _ _ (.refl s)
  · exact takeCommand_keepsLink (done_keepsLink _ _ (.refl s))
  · exact takeCommand_keepsLink (doReadStatus_keepsLink ..)
  · exact takeCommand_keepsLink (doSetPath_keepsLink ..)
  · exact takeCommand_keepsLink (doSetModule_keepsLink ..)
  · exact takeCommand_keepsLink (doSetLimits_keepsLink ..)
  · exact takeCommand_keepsLink (doSetDevice_keepsLink ..)
  · exact takeCommand_keepsLink (doLoadOpen_keepsLink ..)
  · exact takeCommand_keepsLink (doLoadAbort_keepsLink ..)
  · exact takeCommand_keepsLink (doCommit_keepsLink ..)
  · exact takeCommand_keepsLink (doGovern_keepsLink ..)
  · exact takeCommand_keepsLink (doStandby_keepsLink ..)
  · exact takeCommand_keepsLink (doClearLatch_keepsLink ..)
  · exact takeCommand_keepsLink (doSnapshot_keepsLink ..)
  · exact takeCommand_keepsLink (doReadEntry_keepsLink ..)
  · exact takeCommand_keepsLink (doRunTests_keepsLink ..)
  · exact takeCommand_keepsLink (doSoftRestart_keepsLink ..)
  · exact takeCommand_keepsLink (hardReset_keepsLink ho)

theorem sortForward_keepsLink (f : Frame) {s : State} (ho : s.forwardOutput = []) :
    KeepsLink s (sortForward f s) := by
  unfold sortForward
  repeat' split
  · exact takeSample_keepsLink ..
  · exact .refl s
  · exact takeBurstOpen_keepsLink ..
  · exact .refl s
  · exact takeBurstClose_keepsLink ..
  · exact takeLevelStep_keepsLink ..
  · exact .refl s
  · exact takeControl_keepsLink _ _ ho
  · exact .refl s
  · exact takeSegment_keepsLink ..
  · exact .refl s
  · exact send_keepsLink ..

theorem takeForward_keepsLink (f : Frame) {handler : State → State} {s : State} (h : KeepsLink s (handler s)) :
    KeepsLink s (takeForward f handler s) :=
  ite_keepsLink (fun _ => .refl s) fun _ => ite_keepsLink (fun _ => h) fun _ => addCondition_keepsLink ..

theorem radioPort_keepsLink (f : Frame) {reading : State → State} {s : State} (h : KeepsLink s (reading s)) :
    KeepsLink s (radioPort f reading s) :=
  ite_keepsLink (fun _ => .refl s) fun _ =>
    (ite_keepsLink (fun _ => h) fun _ => addCondition_keepsLink ..).trans (enterBuffer_keepsLink ..)

/-! ### The frames that wait on the link (R137) -/

/-- A frame waits on the link only while the forward output holds one, and the return side is within its laws. -/
def LinkLawful (s : State) : Prop := (s.forwardOutput = [] → s.modemWaiting = []) ∧ ReturnsWithin s

theorem linkLawful_iff (s : State) : LinkLawful s ↔ LinkWithin s ∧ ReportsWithin s := by
  constructor
  · rintro ⟨hwaits, ⟨hbuffer, hrun, hqueue⟩, hidle⟩
    exact ⟨⟨hbuffer, hrun, hwaits, hidle⟩, hqueue⟩
  · rintro ⟨⟨hbuffer, hrun, hwaits, hidle⟩, hqueue⟩
    exact ⟨hwaits, ⟨hbuffer, hrun, hqueue⟩, hidle⟩

/-- What a whole command does: it leaves the waiting commands alone and keeps the laws of the link. -/
structure StaysLawful (s t : State) : Prop where
  pending : t.pending = s.pending
  lawful : LinkLawful s → LinkLawful t

theorem KeepsLink.staysLawful {s t : State} (h : KeepsLink s t) : StaysLawful s t where
  pending := h.pending
  lawful := fun ⟨hwaits, hreturns⟩ => ⟨fun ho => h.waiting.trans (hwaits (h.output ho)), h.returns hreturns⟩

theorem StaysLawful.trans {s t u : State} (h1 : StaysLawful s t) (h2 : StaysLawful t u) : StaysLawful s u :=
  ⟨h2.pending.trans h1.pending, h2.lawful ∘ h1.lawful⟩

/-- Every frame that waits is taken or has one ahead in the output, whatever the link was before. -/
theorem takeWaiting_settles (fs : List Frame) (s : State) :
    (takeWaiting fs s).pending = s.pending ∧ (ReturnsWithin s → LinkLawful (takeWaiting fs s)) := by
  induction fs generalizing s with
  | nil => exact ⟨rfl, fun h => ⟨fun _ => rfl, h⟩⟩
  | cons f fs ih =>
    by_cases ho : s.forwardOutput = []
    · have taken : KeepsLink { s with modemWaiting := fs } (takeFrame f { s with modemWaiting := fs }) :=
        takeForward_keepsLink f (sortForward_keepsLink f ho)
      obtain ⟨hpending, hlawful⟩ := ih (takeFrame f { s with modemWaiting := fs })
      rw [takeWaiting_takesFirst ho]
      exact ⟨hpending.trans taken.pending, fun h => hlawful (taken.returns h)⟩
    · rw [takeWaiting_takesNone (.inr ho)]
      exact ⟨rfl, fun h => ⟨fun e => (ho e).elim, h⟩⟩

/-- A handler runs only on an empty output; else the frame waits, behind a frame that the output holds. -/
theorem modemPort_staysLawful (f : Frame) {handler : State → State} {s : State}
    (h : s.forwardOutput = [] → KeepsLink s (handler s)) : StaysLawful s (modemPort f handler s) := by
  by_cases hon : s.deviceState = .offline
  · rw [modemPort_offline handler hon]
    exact (KeepsLink.refl s).staysLawful
  by_cases hbusy : s.forwardOutput ≠ [] ∨ s.modemWaiting ≠ []
  · rw [modemPort_busy handler hon hbusy]
    refine ⟨rfl, fun ⟨hwaits, hreturns⟩ => ⟨fun ho => ?_, hreturns⟩⟩
    exact (hbusy.elim (· ho) (· (hwaits ho))).elim
  · obtain ⟨hempty, hnowait⟩ : s.forwardOutput = [] ∧ s.modemWaiting = [] := by simpa using hbusy
    cases hcheck : passesForward f with
    | true =>
      rw [modemPort_free handler hon hempty hnowait hcheck]
      exact (h hempty).staysLawful
    | false =>
      rw [modemPort_failing handler hon hempty hnowait hcheck]
      exact (addCondition_keepsLink ..).staysLawful

/-! ### Every command and every step -/

/-- The part goes on to a next state, which keeps the laws of the link. -/
def GoesOnLawful (s : State) (o : Host.Outcome State Fault Refusal) : Prop := ∃ t, o = .next t ∧ StaysLawful s t

theorem goesOnLawful_next {s t : State} (h : KeepsLink s t) : GoesOnLawful s (.next t) := ⟨t, rfl, h.staysLawful⟩

theorem goesOnLawful_ite {b : Prop} [Decidable b] {s t u : State} (ht : KeepsLink s t) (hu : KeepsLink s u) :
    GoesOnLawful s (if b then .next t else .next u) := by
  split
  · exact goesOnLawful_next ht
  · exact goesOnLawful_next hu

theorem goesOnLawful_port (f : Frame) {handler : State → State} {s : State}
    (h : s.forwardOutput = [] → KeepsLink s (handler s)) : GoesOnLawful s (.next (modemPort f handler s)) :=
  ⟨_, rfl, modemPort_staysLawful f h⟩

theorem goesOnLawful_control (code : Word) (params : List Word) (s : State) :
    GoesOnLawful s (.next (controlArrives code params (takeControl code params) s)) :=
  goesOnLawful_port _ (takeControl_keepsLink code params)

/-- A reset by the pin leaves nothing on the link and nothing to send. -/
theorem goesOnLawful_reset {s t : State} (hp : t.pending = s.pending) (hw : t.modemWaiting = [])
    (hb : t.returnBuffer = []) (hn : t.runCount = 0) (hr : t.reports = []) : GoesOnLawful s (.next t) :=
  ⟨t, rfl, hp, fun _ => ⟨fun _ => hw, returnsWithin_empty hb hn hr⟩⟩

theorem execForwardOutputSent_goesOnLawful (s : State) : GoesOnLawful s (execForwardOutputSent s) := by
  unfold execForwardOutputSent
  split
  · exact goesOnLawful_next (.refl s)
  · obtain ⟨hpending, hlawful⟩ :=
      takeWaiting_settles s.modemWaiting { s with forwardOutput := s.forwardOutput.tail }
    exact ⟨_, rfl, hpending, fun ⟨_, hreturns⟩ => hlawful hreturns⟩

theorem execGapTimerExpiry_goesOnLawful (s : State) : GoesOnLawful s (execGapTimerExpiry s) := by
  unfold execGapTimerExpiry
  split
  · exact goesOnLawful_next (.refl s)
  · exact goesOnLawful_next (endLoad_keepsLink ..)

theorem execCommitCompletion_goesOnLawful (s : State) : GoesOnLawful s (execCommitCompletion s) := by
  unfold execCommitCompletion
  split
  · exact goesOnLawful_next (completeCommit_keepsLink ..)
  · exact goesOnLawful_next (.refl s)
  · exact goesOnLawful_next (.refl s)

theorem execTestRunCompletion_goesOnLawful (table ring : Option StoreFault) (loop : Option LoopFault) (s : State) :
    GoesOnLawful s (execTestRunCompletion table ring loop s) := by
  unfold execTestRunCompletion
  split
  · exact goesOnLawful_next (completeTestRun_keepsLink ..)
  · exact goesOnLawful_next (.refl s)
  · exact goesOnLawful_next (.refl s)

theorem execDroopAssertingEdge_goesOnLawful (s : State) : GoesOnLawful s (execDroopAssertingEdge s) := by
  have asserted : KeepsLink s { s with droopLine := true } := ⟨rfl, rfl, id, id⟩
  exact goesOnLawful_ite asserted
    (asserted.trans (foldl_keepsLink (fun u m => fire_keepsLink m .droop u) allModules _))

/-- Every command has an arm, and each arm answers a next state. -/
theorem exec_goesOnLawful (i : Instr) (s : State) : GoesOnLawful s (exec i s) := by
  cases i with
  | sample => exact goesOnLawful_port _ fun _ => takeSample_keepsLink ..
  | burstOpen => exact goesOnLawful_port _ fun _ => takeBurstOpen_keepsLink ..
  | burstClose => exact goesOnLawful_port _ fun _ => takeBurstClose_keepsLink ..
  | levelStep => exact goesOnLawful_port _ fun _ => takeLevelStep_keepsLink ..
  | segment => exact goesOnLawful_port _ fun _ => takeSegment_keepsLink ..
  | forwardPassThrough f => exact goesOnLawful_port _ (sortForward_keepsLink f)
  | forwardFrameFailingItsCheck f => exact goesOnLawful_port _ (sortForward_keepsLink f)
  | forwardOutputSent => exact execForwardOutputSent_goesOnLawful s
  | telemetry => exact goesOnLawful_next (radioPort_keepsLink _ (readTelemetry_keepsLink ..))
  | returnFrame => exact goesOnLawful_next (radioPort_keepsLink _ (sortReturn_keepsLink ..))
  | mergeArbiterChoice => exact goesOnLawful_ite (.refl s) (mergeChoice_keepsLink s)
  | binExpiry m => exact goesOnLawful_ite (.refl s) (advance_keepsLink m s)
  | holdExpiry m => exact goesOnLawful_ite (expireHold_keepsLink m s) (.refl s)
  | silenceTimerExpiry m => exact goesOnLawful_ite (expireSilence_keepsLink m s) (.refl s)
  | graceExpiry p => exact goesOnLawful_ite (.refl s) (truncateBurst_keepsLink p s)
  | gapTimerExpiry => exact execGapTimerExpiry_goesOnLawful s
  | commitCompletion => exact execCommitCompletion_goesOnLawful s
  | testRunCompletion table ring loop => exact execTestRunCompletion_goesOnLawful table ring loop s
  | powerUpTestsCompletion table ring => exact goesOnLawful_ite (completePowerUp_keepsLink table ring s) (.refl s)
  | scrubCompletion m => exact goesOnLawful_ite (completeScrub_keepsLink m s) (.refl s)
  | ringStoreBinExamination => exact goesOnLawful_ite ⟨rfl, rfl, id, id⟩ (.refl s)
  | resetPinAssertion => exact goesOnLawful_reset rfl rfl rfl rfl rfl
  | resetPinRelease => exact goesOnLawful_reset rfl rfl rfl rfl rfl
  | droopAssertingEdge => exact execDroopAssertingEdge_goesOnLawful s
  | droopReleasingEdge => exact goesOnLawful_next ⟨rfl, rfl, id, id⟩
  | identify params => exact goesOnLawful_control (commandCode .identify) params s
  | readStatus params => exact goesOnLawful_control (commandCode .readStatus) params s
  | setPath params => exact goesOnLawful_control (commandCode .setPath) params s
  | setModule params => exact goesOnLawful_control (commandCode .setModule) params s
  | setLimits params => exact goesOnLawful_control (commandCode .setLimits) params s
  | setDevice params => exact goesOnLawful_control (commandCode .setDevice) params s
  | loadOpen params => exact goesOnLawful_control (commandCode .loadOpen) params s
  | loadAbort params => exact goesOnLawful_control (commandCode .loadAbort) params s
  | commit params => exact goesOnLawful_control (commandCode .commit) params s
  | govern params => exact goesOnLawful_control (commandCode .govern) params s
  | standby params => exact goesOnLawful_control (commandCode .standby) params s
  | clearLatch params => exact goesOnLawful_control (commandCode .clearLatch) params s
  | snapshot params => exact goesOnLawful_control (commandCode .snapshot) params s
  | readEntry params => exact goesOnLawful_control (commandCode .readEntry) params s
  | runTests params => exact goesOnLawful_control (commandCode .runTests) params s
  | softRestart params => exact goesOnLawful_control (commandCode .softRestart) params s
  | hardReset params a b =>
    have strapped : KeepsLink s { s with nsel1 := a, nsel0 := b } := ⟨rfl, rfl, id, id⟩
    exact ⟨_, rfl, strapped.staysLawful.trans
      (modemPort_staysLawful _ (takeControl_keepsLink (commandCode .hardReset) params))⟩
  | unknownCommand code params => exact goesOnLawful_control code params s

/-- Settles O2: every arm of `exec` answers a next state, and none of what it does writes the waiting commands. -/
theorem everyCommandCompletesAndLeavesTheQueue : Obligations.EveryCommandCompletesAndLeavesTheQueue := by
  intro c s
  obtain ⟨t, hnext, hstays⟩ := exec_goesOnLawful c s
  exact ⟨t, hnext, hstays.pending⟩

theorem exec_keepsLinkLawful {i : Instr} {s t : State} (h : exec i s = .next t) : LinkLawful s → LinkLawful t := by
  obtain ⟨u, hnext, hstays⟩ := exec_goesOnLawful i s
  cases h.symm.trans hnext
  exact hstays.lawful

theorem step_keepsLinkLawful {s t : State} (h : step s = .next t) (hs : LinkLawful s) : LinkLawful t := by
  unfold step at h
  split at h
  · exact exec_keepsLinkLawful h hs
  · unfold idle at h
    split at h
    · exact exec_keepsLinkLawful h hs
    · cases h
      exact (passTime_keepsLink s).staysLawful.lawful hs

/-- Settles O56: the blocks' acts reach the link by what they send and the queue by the reports they offer; the ports,
the arbiter and the sending of the output keep the rest. -/
theorem everyStepKeepsTheLinkAndTheQueueWithinBounds : Obligations.EveryStepKeepsTheLinkAndTheQueueWithinBounds := by
  intro s t hlink hreports hstep
  exact (linkLawful_iff t).mp (step_keepsLinkLawful hstep ((linkLawful_iff s).mpr ⟨hlink, hreports⟩))

end Sys2Proof.Machine
end

section
/-! ### The Report Queue: what an offered report leaves (R142, R160, R161) -/

namespace Sys2Proof.Machine

open Sys2Proof.Claim

theorem enqueue_eq_settled (r : Report) (s : State) : enqueue r s = settled { s with reports := s.reports ++ [r] } :=
  chooseIfIdle_eq_settled _

theorem isVerdict_iff (r : Report) : isVerdict r = true ↔ reportClass r = .verdict := beq_iff_eq

/-! ### Losses and displacements -/

/-- An answer is lost when the queue holds 16. -/
theorem offer_answer_lost {r : Report} {s : State} (hc : reportClass r = .answer) (h : 16 ≤ s.reports.length) :
    offer r s = reportLost s := by
  simp only [offer, hc]
  exact if_neg (Nat.not_lt.mpr h)

/-- A verdict is lost when the queue holds 14. -/
theorem offer_verdict_lost {r : Report} {s : State} (hc : reportClass r = .verdict) (h : 14 ≤ s.reports.length) :
    offer r s = reportLost s := by
  simp only [offer, hc]
  exact if_neg (Nat.not_lt.mpr h)

/-- From 14 entries on a notice takes the place of the oldest verdict, and is lost where there is none. -/
theorem offer_notice_full {r : Report} {s : State} (hc : reportClass r = .notice) (h : 14 ≤ s.reports.length) :
    offer r s = if s.reports.any isVerdict
      then enqueue r (reportLost { s with reports := dropOldestVerdict s.reports }) else reportLost s := by
  simp only [offer, hc]
  exact if_neg (Nat.not_lt.mpr h)

theorem offer_notice_lost {r : Report} {s : State} (hc : reportClass r = .notice) (h : 14 ≤ s.reports.length)
    (hnone : ∀ v ∈ s.reports, reportClass v ≠ .verdict) : offer r s = reportLost s := by
  have hany : ¬ s.reports.any isVerdict = true := by
    rw [List.any_eq_true]
    rintro ⟨v, hv, hverdict⟩
    exact hnone v hv ((isVerdict_iff v).mp hverdict)
  rw [offer_notice_full hc h, if_neg hany]

theorem offer_notice_displaces {r v : Report} {before after : List Report} {s : State} (hc : reportClass r = .notice)
    (h : 14 ≤ s.reports.length) (hs : s.reports = before ++ v :: after) (hv : reportClass v = .verdict)
    (holdest : ∀ u ∈ before, reportClass u ≠ .verdict) :
    offer r s = settled (latch 3 { s with reportGap := true, reports := before ++ after ++ [r] }) := by
  have hverdict : isVerdict v = true := (isVerdict_iff v).mpr hv
  have hbefore : ∀ u ∈ before, isVerdict u = false := fun u hu =>
    Bool.eq_false_iff.mpr fun hu' => holdest u hu ((isVerdict_iff u).mp hu')
  have hany : s.reports.any isVerdict = true :=
    List.any_eq_true.mpr ⟨v, hs ▸ List.mem_append_right before (List.mem_cons_self ..), hverdict⟩
  have hdropped : dropOldestVerdict s.reports = before ++ after := hs ▸ dropOldestVerdict_eq hverdict hbefore
  rw [offer_notice_full hc h, if_pos hany, hdropped, enqueue_eq_settled]
  rfl

/-! ### The queue's bounds -/

theorem QueueWithin.suffix {qs rs : List Report} (h : QueueWithin rs) (hq : qs <:+ rs) : QueueWithin qs := by
  obtain ⟨hlength, hshared⟩ := h
  exact ⟨hq.length_le.trans hlength, (hq.sublist.filter _).length_le.trans hshared⟩

/-- A choice takes at most the oldest report. -/
theorem mergeChoice_reports_suffix (s : State) : (mergeChoice s).reports <:+ s.reports := by
  unfold mergeChoice
  split
  · exact List.suffix_rfl
  · exact List.suffix_rfl
  · next r rs _ hr => exact hr ▸ List.suffix_cons r rs
  · next f fs r rs _ hr =>
    split
    · exact List.suffix_rfl
    · exact hr ▸ List.suffix_cons r rs

theorem enqueue_reports_suffix (r : Report) (s : State) : (enqueue r s).reports <:+ s.reports ++ [r] := by
  unfold enqueue chooseIfIdle
  split
  · exact mergeChoice_reports_suffix _
  · exact List.suffix_rfl

/-- Whatever the lane does, what an offer leaves is what it leaves on a busy lane, less what is chosen at once. -/
theorem offer_reports_suffix (r : Report) (s : State) : (offer r s).reports <:+ queueAfter r s.reports := by
  unfold offer queueAfter
  cases reportClass r with
  | answer =>
    dsimp only
    split
    · exact enqueue_reports_suffix r s
    · exact List.suffix_rfl
  | notice =>
    dsimp only
    split
    · exact enqueue_reports_suffix r s
    · split
      · exact enqueue_reports_suffix r _
      · exact List.suffix_rfl
  | verdict =>
    dsimp only
    split
    · exact enqueue_reports_suffix r s
    · exact List.suffix_rfl

theorem queueAfter_within (r : Report) {rs : List Report} (h : QueueWithin rs) : QueueWithin (queueAfter r rs) := by
  unfold queueAfter
  split
  · next hclass =>
    split
    · next hroom => exact queueWithin_answer h hclass hroom
    · exact h
  · split
    · next hroom => exact queueWithin_shared r hroom
    · split
      · next hverdict => exact queueWithin_displaced r h hverdict
      · exact h
  · split
    · next hroom => exact queueWithin_shared r hroom
    · exact h

theorem offer_reportsWithin (r : Report) {s : State} (h : ReportsWithin s) : ReportsWithin (offer r s) :=
  (queueAfter_within r h).suffix (offer_reports_suffix r s)

/-- Settles O32: the bounds stand by what an offer leaves; the rest is one equation for each class and count. -/
theorem theReportQueueTakesByClass : Obligations.TheReportQueueTakesByClass := by
  intro r s n enters lost
  have hshared (hc : reportClass r ≠ .answer) (hroom : n < 14) : offer r s = enters :=
    (offer_shared_enters hc hroom).trans (enqueue_eq_settled r s)
  refine ⟨offer_reportsWithin r, fun hc => ⟨fun hroom => ?_, offer_answer_lost hc⟩,
    fun hc => ⟨hshared (by simp [hc]), offer_verdict_lost hc⟩,
    fun hc => ⟨hshared (by simp [hc]), offer_notice_lost hc, fun hfull _ _ _ hs hv holdest =>
      offer_notice_displaces hc hfull hs hv holdest⟩⟩
  rw [offer_answer_enters hc hroom, enqueue_eq_settled]

end Sys2Proof.Machine
end

section
/-! ### The Command Unit: which commands are refused, and how (R147, R152, R153) -/

namespace Sys2Proof.Machine

open Sys2Proof.Claim

/-! ### Codes and commands (R147) -/

theorem commandOf_commandCode (c : Command) : commandOf (commandCode c) = some c := by cases c <;> rfl

theorem commandCode_eq_iff {a b : Command} : commandCode a = commandCode b ↔ a = b := by
  refine ⟨fun h => Option.some.inj ?_, congrArg commandCode⟩
  rw [← commandOf_commandCode a, h, commandOf_commandCode]

/-- Code 0 and the codes above 17 name no command. -/
theorem commandOf_unnamed {code : Word} (h : code.toNat = 0 ∨ 17 < code.toNat) : commandOf code = none := by
  unfold commandOf
  split
  case h_18 => rfl
  all_goals omega

/-- Each row that `controlOf` names is a CONTROL frame of its command, with the command's number of parameters. -/
theorem exec_controlOf {c : Instr} {code : Word} {takes : Nat} {params : List Word}
    (h : controlOf c = some (code, takes, params)) : ∃ cmd effect, cmd ≠ .hardReset ∧ code = commandCode cmd ∧
      takes = parameterCount cmd ∧
      ∀ s, exec c s = .next (controlArrives (commandCode cmd) params (takeCommand cmd effect params) s) := by
  unfold controlOf at h
  split at h
  case h_17 => exact nomatch h
  all_goals
    cases h
    exact ⟨_, _, by nofun, rfl, rfl, fun _ => rfl⟩

/-! ### Answers that refuse (R124, R153) -/

theorem natWord_segmentsTaken (s : State) : natWord (segmentsTaken s) = takenSoFar s := by
  unfold segmentsTaken takenSoFar
  cases s.load <;> rfl

/-- A refusal by its code: LOAD ABORT carries the segments taken, a GOVERN answered STATE 0xFFFF. -/
theorem refuse_eq_answered (cmd : Command) (o : AnswerOutcome) (s : State) : refuse cmd o s =
    answered (commandCode cmd) o
      (if commandCode cmd = 0x0008 then [takenSoFar s]
        else if commandCode cmd = 0x000A ∧ o = .state then [0xFFFF] else []) s := by
  have habort : commandCode cmd = 0x0008 ↔ cmd = .loadAbort := commandCode_eq_iff (b := .loadAbort)
  have hgovern : commandCode cmd = 0x000A ↔ cmd = .govern := commandCode_eq_iff (b := .govern)
  simp only [habort, hgovern, ← natWord_segmentsTaken]
  rfl

/-! ### The condition of the part (R152, test 3) -/

section Refusals

variable {s : State} {cmd : Command} (params : List Word)

theorem longInProgress_iff : longInProgress s = true ↔ s.deviceState = .testing ∨ s.longCommand ≠ .none := by
  simp only [longInProgress, Bool.or_eq_true, beq_iff_eq, bne_iff_ne]

theorem commitRunning_iff : commitRunning s = true ↔ ∃ m check, s.longCommand = .commit m check := by
  unfold commitRunning
  cases s.longCommand <;> simp

theorem readsShadowInCommit_iff : readsShadowInCommit s cmd params = true ↔
    cmd = .readEntry ∧ params.head? = some 2 ∧ ∃ m check, s.longCommand = .commit m check := by
  simp only [readsShadowInCommit, Bool.and_eq_true, beq_iff_eq, commitRunning_iff, and_assoc]

theorem refusalFor_lockdown (hc : ¬ (cmd = .hardReset ∨ cmd = .identify ∨ cmd = .readStatus))
    (h : s.deviceState = .lockdown) : refusalFor s cmd params = some .state := by
  rw [refusalFor, if_neg hc, if_pos h]

theorem refusalFor_selftest (hc : ¬ (cmd = .hardReset ∨ cmd = .identify ∨ cmd = .readStatus))
    (h : s.deviceState = .selftest) : refusalFor s cmd params = some .busy := by
  rw [refusalFor, if_neg hc, if_neg (by simp [h]), if_pos h]

variable (hlock : s.deviceState ≠ .lockdown) (hself : s.deviceState ≠ .selftest)

include hlock hself

theorem refusalFor_long (hc : ¬ (cmd = .hardReset ∨ cmd = .identify ∨ cmd = .readStatus))
    (hlong : longInProgress s = true) (hrestart : cmd ≠ .softRestart) (hreads : ¬ readsShadowInCommit s cmd params) :
    refusalFor s cmd params = some .busy := by
  rw [refusalFor, if_neg hc, if_neg hlock, if_neg hself, if_pos ⟨hlong, hrestart, hreads⟩]

/-- SOFT RESTART, and READ ENTRY of kind 2 during a commit, are executed outside LOCKDOWN and SELFTEST. -/
theorem refusalFor_passes (h : cmd = .softRestart ∨ readsShadowInCommit s cmd params = true) :
    refusalFor s cmd params = none := by
  have hpasses : ¬ (longInProgress s = true ∧ cmd ≠ .softRestart ∧ ¬ readsShadowInCommit s cmd params = true) :=
    fun ⟨_, hrestart, hreads⟩ => h.elim hrestart hreads
  rw [refusalFor, if_neg hlock, if_neg hself, if_neg hpasses, ite_self]

end Refusals

/-! ### The tests in order (R152) -/

theorem takeCommand_wrongCount {cmd : Command} {effect : List Word → State → State} {params : List Word} {s : State}
    (h : s.reports.length < 16) (ho : refusalFor s cmd params = none) (hp : params.length ≠ parameterCount cmd)
    (hc : cmd ≠ .hardReset) : takeCommand cmd effect params s = refuse cmd .range s := by
  simp [takeCommand, queueFull, Config.reportQueueSize, Nat.not_le.mpr h, ho, hp, hc]

theorem takeUnknown_full {s : State} (code : Word) (h : 16 ≤ s.reports.length) : takeUnknown code s = latch 3 s :=
  if_pos (decide_eq_true h)

theorem takeUnknown_answered {s : State} (code : Word) (h : s.reports.length < 16) :
    takeUnknown code s = answered code .unknown [] s :=
  if_neg fun hfull => Nat.not_lt.mpr (of_decide_eq_true hfull) h

theorem exec_unknownCommand_taken {code : Word} {params : List Word} {s : State} (hparams : params.length ≤ 12)
    (hport : PortOpen s) (hcode : code.toNat = 0 ∨ 17 < code.toNat) :
    exec (.unknownCommand code params) s = .next (takeUnknown code s) := by
  obtain ⟨hon, hempty, hnowait⟩ := hport
  have htaken : takeControl code params s = takeUnknown code s := by rw [takeControl, commandOf_unnamed hcode]
  rw [← htaken]
  exact congrArg Host.Outcome.next (controlArrives_free _ hon hempty hnowait hparams)

/-- Settles O46: an unknown code meets two tests; a named one those of R152 in their order, each refusal by its code. -/
theorem aCommandIsRefusedByTheConditionOfThePart : Obligations.ACommandIsRefusedByTheConditionOfThePart := by
  refine ⟨fun code params s hparams hport hcode => ?_, fun c code takes params s hc hparams hport => ?_⟩
  · rw [exec_unknownCommand_taken hparams hport hcode]
    exact ⟨fun hfull => by rw [takeUnknown_full code hfull], fun hroom => by rw [takeUnknown_answered code hroom]⟩
  · obtain ⟨cmd, effect, hnot, rfl, rfl, hexec⟩ := exec_controlOf hc
    obtain ⟨hon, hempty, hnowait⟩ := hport
    have htaken : exec c s = .next (takeCommand cmd effect params s) := by
      rw [hexec, controlArrives_free _ hon hempty hnowait hparams]
    intro always restart readsShadow refused long
    have halways : always ↔ cmd = .identify ∨ cmd = .readStatus :=
      or_congr (commandCode_eq_iff (b := .identify)) (commandCode_eq_iff (b := .readStatus))
    have hrestart : restart ↔ cmd = .softRestart := commandCode_eq_iff (b := .softRestart)
    have hreads : readsShadow ↔ readsShadowInCommit s cmd params = true :=
      (and_congr_left' (commandCode_eq_iff (b := .readEntry))).trans (readsShadowInCommit_iff params).symm
    have hrefused (o : AnswerOutcome) : Host.Outcome.next (refuse cmd o s) = refused o :=
      congrArg Host.Outcome.next (refuse_eq_answered cmd o s)
    rw [htaken, halways, hrestart, hreads]
    refine ⟨fun hfull => ?_, fun hroom => ⟨fun hcmd hlock => ?_, fun hcmd hself => ?_,
      fun hcmd hlock hself hlong hnorestart hnoread => ?_, fun hcount hexecuted => ?_⟩⟩
    · rw [takeCommand_full hfull hnot]
      rfl
    · rw [takeCommand_refused hroom (refusalFor_lockdown params (not_or.mpr ⟨hnot, hcmd⟩) hlock), hrefused]
    · rw [takeCommand_refused hroom (refusalFor_selftest params (not_or.mpr ⟨hnot, hcmd⟩) hself), hrefused]
    · rw [takeCommand_refused hroom (refusalFor_long params hlock hself (not_or.mpr ⟨hnot, hcmd⟩)
        (longInProgress_iff.mpr hlong) hnorestart hnoread), hrefused]
    · have hnone : refusalFor s cmd params = none := by
        rcases hexecuted with hcmd | ⟨hworks, hidle⟩ | ⟨hpasses, hlock, hself⟩
        · exact refusalFor_always params hcmd
        · exact refusalFor_working cmd params hworks hidle
        · exact refusalFor_passes params hlock hself hpasses
      rw [takeCommand_wrongCount hroom hnone hcount hnot, hrefused]

end Sys2Proof.Machine
end

section
/-! ### IDENTIFY, READ STATUS and SNAPSHOT (R154, R157, R158) -/

namespace Sys2Proof.Machine

open Sys2Proof.Claim

/-! ### Every module's and every path's turn -/

theorem foldl_setModuleAt_writes (f : ModuleState → ModuleState) (ms : List ModuleId) (s : State) :
    let t := ms.foldl (fun s m => setModuleAt m (f (moduleAt s m)) s) s
    t = { s with modules := t.modules } := by
  induction ms generalizing s with
  | nil => rfl
  | cons m ms ih => exact ih (setModuleAt m (f (moduleAt s m)) s)

theorem foldl_setModuleAt_module (f : ModuleState → ModuleState) (n : ModuleId) :
    ∀ (ms : List ModuleId) (s : State), ms.Nodup →
      moduleAt (ms.foldl (fun s m => setModuleAt m (f (moduleAt s m)) s) s) n =
        if n ∈ ms then f (moduleAt s n) else moduleAt s n
  | [], _, _ => rfl
  | m :: ms, s, hnodup => by
    obtain ⟨hm, hms⟩ := List.nodup_cons.mp hnodup
    rw [List.foldl_cons, foldl_setModuleAt_module f n ms _ hms]
    by_cases hn : n = m
    · subst hn
      rw [if_neg hm, if_pos (List.mem_cons_self ..), moduleAt_setModuleAt_same]
    · simp only [moduleAt_setModuleAt_other hn, List.mem_cons, hn, false_or]

/-- An update of each module in turn is an update of all of them. -/
theorem foldl_setModuleAt_all (f : ModuleState → ModuleState) (s : State) :
    allModules.foldl (fun s m => setModuleAt m (f (moduleAt s m)) s) s = { s with modules := s.modules.map f } := by
  rw [foldl_setModuleAt_writes]
  congr 1
  refine modules_ext (t := { s with modules := s.modules.map f }) fun m => ?_
  rw [foldl_setModuleAt_module f m allModules s (by decide), if_pos (mem_allModules m)]
  exact (Vector.getElem_map f m.isLt).symm

theorem foldl_setPathAt_writes (f : PathContext → PathContext) (ps : List PathId) (s : State) :
    let t := ps.foldl (fun s p => setPathAt p (f (pathAt s p)) s) s
    t = { s with paths := t.paths } := by
  induction ps generalizing s with
  | nil => rfl
  | cons p ps ih => exact ih (setPathAt p (f (pathAt s p)) s)

theorem foldl_setPathAt_path (f : PathContext → PathContext) (q : PathId) :
    ∀ (ps : List PathId) (s : State), ps.Nodup →
      pathAt (ps.foldl (fun s p => setPathAt p (f (pathAt s p)) s) s) q =
        if q ∈ ps then f (pathAt s q) else pathAt s q
  | [], _, _ => rfl
  | p :: ps, s, hnodup => by
    obtain ⟨hp, hps⟩ := List.nodup_cons.mp hnodup
    rw [List.foldl_cons, foldl_setPathAt_path f q ps _ hps]
    by_cases hq : q = p
    · subst hq
      rw [if_neg hp, if_pos (List.mem_cons_self ..), pathAt_setPathAt_same]
    · simp only [pathAt_setPathAt_other hq, List.mem_cons, hq, false_or]

/-- An update of each path in turn is an update of all of them. -/
theorem foldl_setPathAt_all (f : PathContext → PathContext) (s : State) :
    allPaths.foldl (fun s p => setPathAt p (f (pathAt s p)) s) s = { s with paths := s.paths.map f } := by
  rw [foldl_setPathAt_writes]
  congr 1
  refine paths_ext (t := { s with paths := s.paths.map f }) fun p => ?_
  rw [foldl_setPathAt_path f p allPaths s (by decide), if_pos (mem_allPaths p)]
  exact (Vector.getElem_map f p.isLt).symm

theorem clearLatchedSets_eq (s : State) : clearLatchedSets s = { s with
    status := 0, modules := s.modules.map fun x => { x with throttle := { x.throttle with latched := 0 } } } :=
  foldl_setModuleAt_all (fun x => { x with throttle := { x.throttle with latched := 0 } }) { s with status := 0 }

theorem clearCounters_eq (s : State) : clearCounters s = { s with
    paths := s.paths.map fun c => { c with counters := ⟨0, 0, 0, 0, 0, 0, 0⟩ } } :=
  foldl_setPathAt_all (fun c => { c with counters := .zero }) s

/-! ### A command with a clear flag -/

section Flags

variable {flag : Word}

theorem wordBool_of_zero (h : flag = 0) : wordBool flag = some false := h ▸ rfl

theorem wordBool_of_one (h : flag = 1) : wordBool flag = some true := h ▸ rfl

theorem wordBool_of_gt (h : 1 < flag.toNat) : wordBool flag = none := by
  rw [wordBool_eq, if_neg (Nat.not_le.mpr h)]

theorem doReadStatus_keeps (h : flag = 0) (s : State) :
    doReadStatus [flag] s = answered 0x0002 .done (statusWords s) s := by
  simp only [doReadStatus, wordBool_of_zero h]
  rfl

theorem doReadStatus_clears (h : flag = 1) (s : State) :
    doReadStatus [flag] s = answered 0x0002 .done (statusWords s) (clearLatchedSets s) := by
  simp only [doReadStatus, wordBool_of_one h]
  rfl

theorem doReadStatus_refused (h : 1 < flag.toNat) (s : State) :
    doReadStatus [flag] s = answered 0x0002 .range [] s := by
  simp only [doReadStatus, wordBool_of_gt h]
  rfl

theorem doSnapshot_keeps (h : flag = 0) (s : State) :
    doSnapshot [flag] s = answered 0x000D .done (snapshotWords s) s := by
  simp only [doSnapshot, wordBool_of_zero h]
  rfl

theorem doSnapshot_clears (h : flag = 1) (s : State) :
    doSnapshot [flag] s = answered 0x000D .done (snapshotWords s) (clearCounters s) := by
  simp only [doSnapshot, wordBool_of_one h]
  rfl

theorem doSnapshot_refused (h : 1 < flag.toNat) (s : State) : doSnapshot [flag] s = answered 0x000D .range [] s := by
  simp only [doSnapshot, wordBool_of_gt h]
  rfl

end Flags

/-! ### IDENTIFY and READ STATUS (R154, R157) -/

theorem deviceStateWord_eq_code (d : DeviceState) : deviceStateWord d = deviceCode d := by cases d <;> rfl

theorem throttleWord_eq_code (t : ThrottleState) : throttleWord t = throttleCode t := by cases t <;> rfl

theorem doIdentify_eq (params : List Word) (s : State) : doIdentify params s = answered 0x0001 .done
    [0x0E27, 0x0024, 0x0010, wordOf s.nodeNumber.val, deviceCode s.deviceState] s := by
  rw [doIdentify, deviceStateWord_eq_code]
  rfl

/-- Settles O47: both commands are executed in every device state; READ STATUS acts by its flag, and its words are the
figures of the four modules behind the status. -/
theorem identifyAndReadStatusAnswerInEveryState : Obligations.IdentifyAndReadStatusAnswerInEveryState := by
  intro flag s hheard figures detail
  obtain ⟨⟨hon, hempty, hnowait⟩, hroom⟩ := hheard
  have hfigures (m : ModuleId) : moduleStatus (moduleAt s m) = figures m := by
    rw [moduleStatus, throttleWord_eq_code]
    rfl
  have hdetail : statusWords s = detail := by
    simp only [statusWords, allModules, List.flatMap_cons, List.flatMap_nil, List.append_nil, hfigures, detail,
      List.append_assoc]
  rw [exec_identify_executed hon hempty hnowait hroom, exec_readStatus_executed hon hempty hnowait hroom, doIdentify_eq,
    ← hdetail, ← clearLatchedSets_eq]
  refine ⟨rfl, fun h => ?_, fun h => ?_, fun h => ?_⟩
  · rw [doReadStatus_keeps h]
  · rw [doReadStatus_clears h]
  · rw [doReadStatus_refused h]

/-! ### SNAPSHOT (R158) -/

/-- Settles O48: the command is executed and acts by its flag; its words are the counters of the eight paths behind the
counter mode. -/
theorem snapshotCapturesThenClears : Obligations.SnapshotCapturesThenClears := by
  intro flag s hexecuting two counts detail
  obtain ⟨⟨⟨hon, hempty, hnowait⟩, hroom⟩, hworks, hidle⟩ := hexecuting
  have hcounts (p : PathId) : counterWords (pathAt s p).counters = counts p := rfl
  have hpaths : (allPaths.flatMap fun p => counterWords (pathAt s p).counters) =
      counts 0 ++ counts 1 ++ counts 2 ++ counts 3 ++ counts 4 ++ counts 5 ++ counts 6 ++ counts 7 := by
    simp only [allPaths, List.flatMap_cons, List.flatMap_nil, List.append_nil, hcounts, List.append_assoc]
  have hdetail : snapshotWords s = detail := congrArg (List.cons (counterModeWord s.counterMode)) hpaths
  rw [exec_snapshot_executed hon hempty hnowait hroom hworks hidle, ← hdetail, ← clearCounters_eq]
  refine ⟨fun h => ?_, fun h => ?_, fun h => ?_⟩
  · rw [doSnapshot_keeps h]
  · rw [doSnapshot_clears h]
  · rw [doSnapshot_refused h]

end Sys2Proof.Machine
end

section
/-! ### READ ENTRY (R18, R159) -/

namespace Sys2Proof.Machine

open Sys2Proof.Claim

/-! ### Words of an entry, as the statement spells them (R149, R159) -/

theorem optWord_eq_orAbsent (n : Option Nat) : optWord n = orAbsent n := by cases n <;> rfl

theorem msWord_eq_msLeft (t : Option Nat) : msWord t = msLeft t := by cases t <;> rfl

theorem shadowStateWord_eq_code (s : ShadowState) : shadowStateWord s = shadowCode s := by cases s <;> rfl

theorem levelWord_eq_code (g : Level) : levelWord g = levelCode g := by cases g <;> rfl

/-- A reading that is absent is given as 0. -/
theorem readingWord_eq (n : Option Nat) : (n.map natWord).getD 0 = wordOf (n.getD 0) := by cases n <;> rfl

/-- A word past the profile's end is 0. -/
theorem profileWord_eq_ite (p : Profile) (n : Nat) : profileWord p n = if n < 410 then profileWord p n else 0 := by
  split
  · rfl
  · next h => simp [profileWord, h]

theorem presenceWord_eq_sum (c : ModuleContext) : presenceWord c =
    wordOf ((if c.filtered.isSome then 1 else 0) + (if c.lastCurrent.isSome then 2 else 0) +
      (if c.lastReflection.isSome then 4 else 0)) := by
  have hbits : ∀ x y z : Bool, ((if x then 1 else 0) ||| (if y then 2 else 0) ||| (if z then 4 else 0) : Word) =
      wordOf ((if x then 1 else 0) + (if y then 2 else 0) + (if z then 4 else 0)) := by decide
  exact hbits ..

/-! ### The five kinds of entry (R159) -/

theorem shadowSegmentWords_eq (i : Nat) (s : State) : shadowSegmentWords i s =
    [shadowCode s.shadowState,
        match s.load with
        | some l => wordOf l.expected
        | none => 0xFFFF,
        match s.load with
        | some l => wordOf l.taken
        | none => 0xFFFF] ++
      (List.range 32).map fun k => if 32 * i + k < 410 then profileWord s.shadow (32 * i + k) else 0 := by
  simp only [shadowSegmentWords, shadowStateWord_eq_code, ← profileWord_eq_ite]
  cases s.load <;> rfl

theorem ringBinWords_eq (r : Ring) (i : BinId) : ringBinWords r i =
    let b := r.bins[i.val]'i.isLt
    [wordOf (b.energy / 65536), wordOf b.energy, wordOf (b.frames / 65536), wordOf b.frames, orAbsent b.peak,
      if r.current = i then 1 else 0, wordOf r.current.val,
      match r.slopeReference with
      | some f => BitVec.ofInt 16 f
      | none => 0x8000] := by
  have hcurrent : boolWord (r.current == i) = if r.current = i then 1 else 0 := by simp [boolWord]
  rw [ringBinWords, hcurrent, optWord_eq_orAbsent]
  cases r.slopeReference <;> rfl

theorem pathWords_eq_entry (c : PathContext) : pathWords c = pathEntry c := by
  have hclass : classWord c.trafficClass = (match c.trafficClass with
      | .voice => 0
      | .signalling => 1
      | .data => 2) := by cases c.trafficClass <;> rfl
  unfold pathWords pathEntry
  rw [hclass]
  cases c.burst with
  | none => rfl
  | some b =>
    simp only [burstWords, levelWord_eq_code, optWord_eq_orAbsent, verdictWord_eq_code]
    rfl

theorem moduleWords_eq_entry (x : ModuleState) : moduleWords x = moduleEntry x := by
  have htelemetry : telemetryWord x.context.telemetry = (match x.context.telemetry with
      | .none => 0
      | .fresh => 1
      | .stale => 2) := by cases x.context.telemetry <;> rfl
  have hfiltered : (x.context.filtered.map (BitVec.ofInt 16)).getD 0 = (match x.context.filtered with
      | some f => BitVec.ofInt 16 f
      | none => 0) := by cases x.context.filtered <;> rfl
  unfold moduleWords moduleEntry
  simp only [htelemetry, hfiltered, throttleWord_eq_code, presenceWord_eq_sum, readingWord_eq, msWord_eq_msLeft]
  rfl

/-! ### Which entry a kind and its indexes name (R159) -/

section Entries

variable {kind i j : Word} (s : State)

theorem entryWords_unknownKind (h : kind.toNat = 0 ∨ 5 < kind.toNat) : entryWords kind i j s = .error .range := by
  unfold entryWords
  split
  case h_6 => rfl
  all_goals omega

section Record

variable (hk : kind.toNat = 1)

include hk

theorem entryWords_noRecord (h : 3 < i.toNat ∨ 63 < j.toNat) : entryWords kind i j s = .error .range := by
  simp only [entryWords, hk]
  split
  · next hm hj =>
    rcases h with hi | hgt
    · exact nomatch (wordModule_of_gt hi).symm.trans hm
    · exact absurd (of_decide_eq_true hj) (Nat.not_lt.mpr hgt)
  · rfl

variable {s} {m : ModuleId} (hi : i.toNat = m.val) (hj : j.toNat ≤ 63)

include hi hj

theorem entryWords_unprofiled (h : (moduleAt s m).active = none) : entryWords kind i j s = .error .state := by
  simp only [entryWords, hk, wordModule_of_eq hi, decide_eq_true (Nat.lt_succ_of_le hj), profileOf_none h]

theorem entryWords_record {a : ActiveProfile} (h : (moduleAt s m).active = some a) :
    entryWords kind i j s = .ok (activeRecordWords a.words j.toNat) := by
  simp only [entryWords, hk, wordModule_of_eq hi, decide_eq_true (Nat.lt_succ_of_le hj), profileOf_some h]

end Record

theorem entryWords_noSegment (hk : kind.toNat = 2) (h : 12 < i.toNat) : entryWords kind i j s = .error .range := by
  simp only [entryWords, hk, if_neg (Nat.not_le.mpr h)]

theorem entryWords_segment (hk : kind.toNat = 2) (h : i.toNat ≤ 12) :
    entryWords kind i j s = .ok (shadowSegmentWords i.toNat s) := by
  simp only [entryWords, hk, if_pos h]

theorem entryWords_noBin (hk : kind.toNat = 3) (h : 3 < i.toNat ∨ 31 < j.toNat) :
    entryWords kind i j s = .error .range := by
  simp only [entryWords, hk]
  split
  · next hm =>
    have hj : ¬ j.toNat < 32 := fun hlt => h.elim
      (fun hi => nomatch (wordModule_of_gt hi).symm.trans hm) (Nat.not_lt.mpr (Nat.le_of_lt_succ hlt))
    rw [dif_neg hj]
  · rfl

theorem entryWords_bin {m : ModuleId} {bin : BinId} (hk : kind.toNat = 3) (hi : i.toNat = m.val)
    (hj : j.toNat = bin.val) : entryWords kind i j s = .ok (ringBinWords (moduleAt s m).ring bin) := by
  have hbin : ∀ h : j.toNat < 32, (⟨j.toNat, h⟩ : BinId) = bin := fun _ => Fin.ext hj
  simp only [entryWords, hk, wordModule_of_eq hi, dif_pos (hj ▸ bin.isLt), hbin]

theorem entryWords_noPath (hk : kind.toNat = 4) (h : 7 < i.toNat) : entryWords kind i j s = .error .range := by
  simp only [entryWords, hk, wordPath_of_gt h]

theorem entryWords_path {p : PathId} (hk : kind.toNat = 4) (h : i.toNat = p.val) :
    entryWords kind i j s = .ok (pathEntry (pathAt s p)) := by
  simp only [entryWords, hk, wordPath_of_eq h, pathWords_eq_entry]

theorem entryWords_noModule (hk : kind.toNat = 5) (h : 3 < i.toNat) : entryWords kind i j s = .error .range := by
  simp only [entryWords, hk, wordModule_of_gt h]

theorem entryWords_module {m : ModuleId} (hk : kind.toNat = 5) (h : i.toNat = m.val) :
    entryWords kind i j s = .ok (moduleEntry (moduleAt s m)) := by
  simp only [entryWords, hk, wordModule_of_eq h, moduleWords_eq_entry]

/-! ### The answer -/

variable {s}

theorem doReadEntry_gives {ws : List Word} (h : entryWords kind i j s = .ok ws) :
    doReadEntry [kind, i, j] s = answered 0x000E .done ([kind, i, j] ++ ws) s := by
  simp only [doReadEntry, h]
  rfl

theorem doReadEntry_refused {o : AnswerOutcome} (h : entryWords kind i j s = .error o) :
    doReadEntry [kind, i, j] s = answered 0x000E o [] s := by
  simp only [doReadEntry, h]
  rfl

/-- READ ENTRY has its effect with no long command, and for kind 2 during a commit too (R152, R18). -/
theorem exec_readEntry_reads (hheard : Heard s) (hworks : s.deviceState = .standby ∨ s.deviceState = .governing)
    (h : s.longCommand = .none ∨ kind.toNat = 2 ∧ ∃ m check, s.longCommand = .commit m check) :
    exec (.readEntry [kind, i, j]) s = .next (doReadEntry [kind, i, j] s) := by
  obtain ⟨⟨hon, hempty, hnowait⟩, hroom⟩ := hheard
  rcases h with hidle | ⟨hk, m, check, hcommit⟩
  · exact exec_readEntry_executed hon hempty hnowait hroom hworks hidle kind i j
  · obtain rfl : kind = 2 := BitVec.eq_of_toNat_eq hk
    exact exec_readEntry_inCommit hon hempty hnowait hroom hworks hcommit i j

end Entries

/-- Settles O49: the command is executed; what it answers is the entry that its kind and indexes name, or the outcome
that there is none. -/
theorem readEntryReturnsOneEntry : Obligations.ReadEntryReturnsOneEntry := by
  intro kind i j s hheard hworks hlong run gives refused
  have hrun : run = .next (doReadEntry [kind, i, j] s) := exec_readEntry_reads hheard hworks hlong
  have hgives {ws : List Word} (h : entryWords kind i j s = .ok ws) : gives ws :=
    hrun.trans (congrArg Host.Outcome.next (doReadEntry_gives h))
  have hrefused {o : AnswerOutcome} (h : entryWords kind i j s = .error o) : refused o :=
    hrun.trans (congrArg Host.Outcome.next (doReadEntry_refused h))
  refine ⟨fun hk => hrefused (entryWords_unknownKind s hk), fun hk => ?record, fun hk => ?segment, fun hk => ?bin,
    fun hk => ?path, fun hk => ?module⟩
  case record =>
    refine ⟨fun hout => hrefused (entryWords_noRecord s hk hout), fun m hi hj => ⟨fun hnone => ?_, fun a ha => ?_⟩⟩
    · exact hrefused (entryWords_unprofiled hk hi hj hnone)
    · exact hgives (entryWords_record hk hi hj ha)
  case segment =>
    refine ⟨fun hout => hrefused (entryWords_noSegment s hk hout), fun hi => ?_⟩
    exact hgives ((entryWords_segment s hk hi).trans (congrArg Except.ok (shadowSegmentWords_eq i.toNat s)))
  case bin =>
    refine ⟨fun hout => hrefused (entryWords_noBin s hk hout), fun m bin hi hj => ?_⟩
    exact hgives ((entryWords_bin s hk hi hj).trans (congrArg Except.ok (ringBinWords_eq (moduleAt s m).ring bin)))
  case path =>
    exact ⟨fun hout => hrefused (entryWords_noPath s hk hout), fun p hi => hgives (entryWords_path s hk hi)⟩
  case module =>
    exact ⟨fun hout => hrefused (entryWords_noModule s hk hout), fun m hi => hgives (entryWords_module s hk hi)⟩

end Sys2Proof.Machine
end

section
/-! ### GOVERN and STANDBY (R156) -/

namespace Sys2Proof.Machine

open Sys2Proof.Claim

theorem lacksProfile_iff (s : State) (m : ModuleId) : lacksProfile s m = true ↔
    (moduleAt s m).active = none ∧ ∃ p, (pathAt s p).enabled = true ∧ (pathAt s p).moduleId = m := by
  simp only [lacksProfile, Bool.and_eq_true, Option.isNone_iff_eq_none, List.any_eq_true, beq_iff_eq, mem_allPaths,
    true_and]

/-- A module that has a property no lower module has is the first that is found. -/
theorem find_allModules_lowest {P : ModuleId → Bool} {m : ModuleId} (hm : P m = true)
    (hlowest : ∀ n < m, P n = false) : allModules.find? P = some m := by
  have hsplit : ∀ m : ModuleId, allModules = allModules.take m ++ m :: allModules.drop (m + 1) := by decide
  have hlower : ∀ m : ModuleId, ∀ n ∈ allModules.take m, n < m := by decide
  rw [List.find?_eq_some_iff_append]
  exact ⟨hm, _, _, hsplit m, fun n hn => by rw [hlowest n (hlower m n hn)]; rfl⟩

section Commands

variable {s : State} (params : List Word)

theorem doGovern_governs (hd : s.deviceState = .standby) (h : ∀ m, lacksProfile s m = false) :
    doGovern params s = answered 0x000A .done [] { s with deviceState := .governing } := by
  have hall : allModules.find? (lacksProfile s) = none :=
    List.find?_eq_none.mpr fun m _ => Bool.eq_false_iff.mp (h m)
  simp only [doGovern, if_pos hd, hall]
  rfl

theorem doGovern_lacking {m : ModuleId} (hd : s.deviceState = .standby) (hm : lacksProfile s m = true)
    (hlowest : ∀ n < m, lacksProfile s n = false) :
    doGovern params s = answered 0x000A .state [BitVec.ofNat 16 m.val] s := by
  simp only [doGovern, if_pos hd, find_allModules_lowest hm hlowest]
  rfl

theorem doGovern_refused (hd : s.deviceState ≠ .standby) : doGovern params s = answered 0x000A .state [0xFFFF] s := by
  rw [doGovern, if_neg hd]
  rfl

theorem doStandby_stands (hd : s.deviceState = .governing) :
    doStandby params s = answered 0x000B .done [] { s with deviceState := .standby } := by
  rw [doStandby, if_pos hd]
  rfl

theorem doStandby_refused (hd : s.deviceState ≠ .governing) : doStandby params s = answered 0x000B .state [] s := by
  rw [doStandby, if_neg hd]
  rfl

end Commands

/-- Settles O52: both commands are executed and act by the device state; GOVERN in STANDBY by the first module that
lacks a profile. -/
theorem governAndStandbyMoveTheDevice : Obligations.GovernAndStandbyMoveTheDevice := by
  intro s hexecuting lacks
  obtain ⟨⟨⟨hon, hempty, hnowait⟩, hroom⟩, hworks, hidle⟩ := hexecuting
  have hlacks (m : ModuleId) : lacksProfile s m = true ↔ lacks m := lacksProfile_iff s m
  have hprofiled (m : ModuleId) (h : ¬ lacks m) : lacksProfile s m = false :=
    Bool.eq_false_iff.mpr fun hm => h ((hlacks m).mp hm)
  rw [exec_govern_executed hon hempty hnowait hroom hworks hidle,
    exec_standby_executed hon hempty hnowait hroom hworks hidle]
  refine ⟨fun hd => ⟨?_, fun hall => ?_, fun m hm hlowest => ?_⟩, fun hd => ⟨?_, ?_⟩⟩
  · rw [doStandby_refused [] (by simp [hd])]
  · rw [doGovern_governs [] hd fun m => hprofiled m (hall m)]
  · rw [doGovern_lacking [] hd ((hlacks m).mpr hm) fun n hn => hprofiled n (hlowest n hn)]
  · rw [doGovern_refused [] (by simp [hd])]
  · rw [doStandby_stands [] hd]

end Sys2Proof.Machine
end

section
/-! ### What LOCKDOWN and SOFT RESTART end (R120, R132, R171, R175 to R177) -/

namespace Sys2Proof.Machine

open Sys2Proof.Claim

/-- The part with its long command, its load and its scrubs abandoned, as the statements spell it. -/
def workAbandoned (s : State) : State :=
  { s with
    modules := s.modules.map fun x => { x with scrub := false },
    shadow := match s.longCommand with
      | .runTests tests => if tests.getLsbD 0 then .zero else s.shadow
      | _ => s.shadow,
    shadowState := if s.load.isSome then .incomplete else
      match s.longCommand with
      | .commit _ _ => .ready
      | .runTests tests => if tests.getLsbD 0 then .empty else s.shadowState
      | .none => s.shadowState,
    ringFault := match s.longCommand with
      | .runTests _ => none
      | _ => s.ringFault,
    load := none, longCommand := .none }

theorem cutLoad_eq (s : State) :
    cutLoad s = { s with load := none, shadowState := if s.load.isSome then .incomplete else s.shadowState } := by
  cases h : s.load with
  | none => rw [cutLoad_none h, ← h, if_neg (by simp [h])]
  | some l => rw [cutLoad_some h]; rfl

theorem cutLoad_abandonLongCommand (s : State) :
    cutLoad (abandonLongCommand s) = { workAbandoned s with modules := s.modules } := by
  unfold workAbandoned
  rw [cutLoad_eq]
  cases h : s.longCommand with
  | none =>
    rw [abandonLongCommand_none h]
    simp only [h]
  | commit m check => rw [abandonLongCommand_commit h]
  | runTests tests => rw [abandonLongCommand_runTests h]

theorem abandonAll_eq (s : State) : abandonScrubs (cutLoad (abandonLongCommand s)) = workAbandoned s := by
  rw [cutLoad_abandonLongCommand, abandonScrubs_eq]
  rfl

theorem enterLockdown_eq_lockedDown (cause : LockdownCause) (s : State) :
    enterLockdown cause s = lockedDown cause s := by
  unfold enterLockdown reportDeviceState
  rw [abandonAll_eq]
  rfl

end Sys2Proof.Machine
end

section
/-! ### The resets and OFFLINE (R133, R165 to R167) -/

namespace Sys2Proof.Machine

open Sys2Proof.Claim

/-! ### The reset values -/

theorem pathAt_reset (p : PathId) : pathAt State.reset p = .reset ⟨p.val / 2, by omega⟩ := by
  revert p
  decide

theorem moduleAt_reset (m : ModuleId) : moduleAt State.reset m = .reset := by
  revert m
  decide

/-- Settles O4: the paths and the modules are those of the two lemmas above, every other field is written out. -/
theorem resetLeavesTheStatedValues : Obligations.ResetLeavesTheStatedValues :=
  ⟨rfl, rfl, rfl, rfl, rfl, rfl, rfl, pathAt_reset, rfl, rfl, rfl, moduleAt_reset, rfl, rfl, rfl, rfl, rfl, rfl, rfl⟩

/-- Settles O5: each law holds of the state after reset, in which nothing is in progress. -/
theorem resetIsLawful : Obligations.ResetIsLawful := by
  have agreed : InAgreement State.reset := reset_allEnded.inAgreement nofun nofun
  obtain ⟨hwindow, henergy, hthermal⟩ := (gradedModules_iff State.reset).mp reset_graded
  exact {
    link := by decide
    reports := by decide
    operations := agreed.operations
    bursts := reset_accounted.bursts
    accounts := reset_accounted.accounts
    window := hwindow
    energy := henergy
    thermal := hthermal
    throttles := (throttlesLawful_iff State.reset).mpr reset_throttleWithin
    governing := agreed.governing
    scrubs := agreed.scrubs }

/-! ### The reset pin and HARD RESET (R133, R166, R167) -/

theorem strapNumber_val (a b : Bool) : (strapNumber a b).val = 2 * a.toNat + b.toNat := by
  cases a <;> cases b <;> rfl

theorem resetBlocks_pathAt (s : State) (p : PathId) : pathAt (resetBlocks s) p = .reset ⟨p.val / 2, by omega⟩ :=
  pathAt_reset p

theorem resetBlocks_moduleAt (s : State) (m : ModuleId) : moduleAt (resetBlocks s) m = .reset := moduleAt_reset m

/-- HARD RESET meets none of R152's tests: neither a full queue, nor the part's condition, nor its words stop it. -/
theorem takeCommand_hardReset (effect : List Word → State → State) (params : List Word) (s : State) :
    takeCommand .hardReset effect params s = effect params s := by
  simp [takeCommand, refusalFor]

theorem exec_hardReset_taken {s : State} {params : List Word} (hparams : params.length ≤ 12) (hport : PortOpen s)
    (a b : Bool) : exec (.hardReset params a b) s = .next (hardReset { s with nsel1 := a, nsel0 := b }) := by
  obtain ⟨hon, hempty, hnowait⟩ := hport
  have arrives := controlArrives_free (code := commandCode .hardReset) (s := { s with nsel1 := a, nsel0 := b })
    (takeCommand .hardReset doHardReset params) hon hempty hnowait hparams
  exact congrArg Host.Outcome.next (arrives.trans (takeCommand_hardReset ..))

/-- Settles O6: both resets write the reset values over all but the queue and the pins; HARD RESET finds no frame waiting
on the link, since the port is open to its own. -/
theorem theResetsReturnEveryBlockToItsResetValues : Obligations.TheResetsReturnEveryBlockToItsResetValues := by
  refine ⟨fun s => ?_, fun a b s => ⟨strapNumber a b, strapNumber_val a b, rfl, fun params hparams hport => ?_⟩⟩
  · refine ⟨{ resetBlocks s with deviceState := .offline }, rfl, rfl, rfl, rfl, rfl, rfl, rfl, rfl, rfl, rfl, rfl, rfl,
      rfl, rfl, fun p => ?_, fun m => ?_⟩
    · exact congrArg PathContext.burst (resetBlocks_pathAt s p)
    · exact congrArg ModuleState.scrub (resetBlocks_moduleAt s m)
  · rw [exec_hardReset_taken hparams hport]
    obtain ⟨-, -, hnowait⟩ := hport
    simp only [hardReset, hnowait]
    rfl

/-! ### OFFLINE (R133, R165, R166) -/

section Offline

variable {s : State} (hoff : s.deviceState = .offline)

include hoff

/-- A frame that arrives in OFFLINE is lost. -/
theorem offline_modemPort (f : Frame) (handler : State → State) :
    Host.Outcome.next (φ := Fault) (ρ := Refusal) (modemPort f handler s) = .next s :=
  congrArg Host.Outcome.next (modemPort_offline handler hoff)

theorem offline_radioPort (f : Frame) (reading : State → State) :
    Host.Outcome.next (φ := Fault) (ρ := Refusal) (radioPort f reading s) = .next s :=
  congrArg Host.Outcome.next (radioPort_offline reading hoff)

/-- An event that asks for a part out of OFFLINE, and perhaps for more, is not taken. -/
theorem offline_guarded {c : Prop} [Decidable c] (h : c → s.deviceState ≠ .offline)
    {o : Host.Outcome State Fault Refusal} : (if c then o else .next s) = .next s := if_neg fun hc => h hc hoff

theorem OperationsAgree.offline (h : OperationsAgree s) : s.longCommand = .none ∧ s.load = none := by
  obtain ⟨-, -, htesting, hcommit, hload⟩ := h
  constructor
  · cases hl : s.longCommand with
    | none => rfl
    | commit m check => simp [hl, hoff, isCommit] at hcommit
    | runTests tests => simp [hl, hoff, isTestRun] at htesting
  · cases hl : s.load with
    | none => rfl
    | some l => simp [hl, hoff] at hload

theorem ScrubsLawful.offline (h : ScrubsLawful s) (m : ModuleId) : (moduleAt s m).scrub = false := by
  refine Bool.eq_false_iff.mpr fun hscrub => ?_
  obtain ⟨-, -, hdevice⟩ := h m hscrub
  simp [hoff] at hdevice

end Offline

/-- Settles O7: the ports lose what arrives, the timers and the arbiter stand still, and by the laws no long operation
is in progress that could complete. -/
theorem inOfflineOnlyThePinsAct : Obligations.InOfflineOnlyThePinsAct := by
  intro c s hoff hoperations hscrubs
  obtain ⟨hlong, hload⟩ := hoperations.offline hoff
  have hscrub := hscrubs.offline hoff
  cases c with
  | resetPinAssertion => trivial
  | resetPinRelease a b => trivial
  | droopAssertingEdge => exact if_pos hoff
  | droopReleasingEdge => rfl
  | hardReset params a b => exact offline_modemPort (s := { s with nsel1 := a, nsel0 := b }) hoff ..
  | telemetry | returnFrame => exact offline_radioPort hoff ..
  | forwardOutputSent | mergeArbiterChoice => exact if_pos hoff
  | binExpiry | graceExpiry => exact if_pos hoff
  | holdExpiry | silenceTimerExpiry => exact offline_guarded hoff And.left
  | gapTimerExpiry => show execGapTimerExpiry s = _; rw [execGapTimerExpiry, hload]
  | commitCompletion => show execCommitCompletion s = _; rw [execCommitCompletion, hlong]
  | testRunCompletion table ring loop =>
    show execTestRunCompletion table ring loop s = _
    rw [execTestRunCompletion, hlong]
  | powerUpTestsCompletion => exact offline_guarded hoff fun hself => by simp [hself]
  | scrubCompletion m => exact if_neg (by simp [hscrub m])
  | ringStoreBinExamination => exact if_neg (by simp [ringStoreRuns, hlong, hoff])
  | _ => exact offline_modemPort hoff ..

end Sys2Proof.Machine
end

section
/-! ### Self-tests: the failures of a run and its results (R165, R168, R170 to R174) -/

namespace Sys2Proof.Machine

open Sys2Proof.Claim

/-! ### RING STORE examines a bin (R170, R171) -/

theorem ringStoreRuns_iff (s : State) : ringStoreRuns s = true ↔
    (∃ tests, s.longCommand = .runTests tests ∧ tests.getLsbD 1 = true) ∨
      (s.longCommand = .none ∧ s.deviceState = .selftest) := by
  unfold ringStoreRuns
  cases s.longCommand with
  | none => simp
  | commit m check => simp
  | runTests tests => simp [selected, testBit]

/-- The bin is written back as it was read, so the ring stands; the first finding of the run stands. -/
theorem exec_ringStoreBinExamination_runs {s : State} (h : ringStoreRuns s = true) (m : ModuleId) (bin : BinId)
    (found : Option StoreFault) :
    exec (.ringStoreBinExamination m bin found) s = .next { s with ringFault := s.ringFault.or found } := by
  show execRingStoreBinExamination m bin found s = _
  rw [execRingStoreBinExamination, Vector.set_getElem_self]
  rw [if_pos h]
  exact congrArg Host.Outcome.next (setModuleAt_self m { s with ringFault := s.ringFault.or found })

theorem exec_ringStoreBinExamination_idle {s : State} (h : ¬ ringStoreRuns s = true) (m : ModuleId) (bin : BinId)
    (found : Option StoreFault) : exec (.ringStoreBinExamination m bin found) s = .next s := if_neg h

/-- Settles O28: RING STORE runs exactly where the statement says so; where it does not, nothing is examined. -/
theorem aRingStoreExaminationLeavesTheRings : Obligations.ARingStoreExaminationLeavesTheRings := by
  intro m bin found s
  refine ⟨fun hruns => ?_, fun ⟨hlong, hself⟩ => exec_ringStoreBinExamination_idle ?_ m bin found⟩
  · rw [exec_ringStoreBinExamination_runs ((ringStoreRuns_iff s).mpr hruns)]
    cases s.ringFault <;> rfl
  · rw [ringStoreRuns_iff]
    rintro (⟨tests, hrun, -⟩ | ⟨-, hstill⟩)
    · exact nomatch hlong.symm.trans hrun
    · exact hself hstill

/-! ### The results of a run, failure by failure (R165, R170) -/

theorem resultsOf_append (fs : List (SelfTest × TestReason)) (t : SelfTest) (reason : TestReason) :
    resultsOf (fs ++ [(t, reason)]) = ⟨(resultsOf fs).failed ||| (1#4 <<< testBit t), some t, some reason⟩ := by
  simp [resultsOf]

theorem testBit_alone (t u : SelfTest) : (1#4 <<< testBit t).getLsbD (testBit u) = (t == u) := by
  cases t <;> cases u <;> rfl

/-- The set of the results names the tests that failed, and no other. -/
theorem resultsOf_failed_bit (fs : List (SelfTest × TestReason)) (t : SelfTest) :
    (resultsOf fs).failed.getLsbD (testBit t) = fs.any fun f => f.1 == t := by
  induction fs using List.reverseRecOn with
  | nil => exact BitVec.getLsbD_zero
  | append_singleton fs f ih => rw [resultsOf_append, BitVec.getLsbD_or, ih, testBit_alone]; simp

theorem resultsOf_failed_eq_zero (fs : List (SelfTest × TestReason)) : (resultsOf fs).failed = 0 ↔ fs = [] := by
  constructor
  · intro hzero
    cases fs with
    | nil => rfl
    | cons f fs =>
      have hbit := resultsOf_failed_bit (f :: fs) f.1
      rw [hzero] at hbit
      simp at hbit
  · rintro rfl
    rfl

/-- A run is critical by what its set of failed tests holds. -/
theorem critical_iff (fs : List (SelfTest × TestReason)) : critical fs = true ↔
    (resultsOf fs).failed.getLsbD 0 = true ∨ (resultsOf fs).failed.getLsbD 3 = true := by
  have htable : (resultsOf fs).failed.getLsbD 0 = _ := resultsOf_failed_bit fs .tableStore
  have hprofile : (resultsOf fs).failed.getLsbD 3 = _ := resultsOf_failed_bit fs .profileCheck
  rw [htable, hprofile]
  simp only [critical, List.any_eq_true, Bool.or_eq_true, and_or_left, exists_or]

/-- The failures, test by test, that the operands and the stored profiles give (R171 to R173). -/
def reasonOf (table ring : Option StoreFault) (loop : Option LoopFault) (bad : Option ModuleId) :
    SelfTest → Option TestReason
  | .tableStore => table.map .store
  | .ringStore => ring.map .store
  | .loopback => loop.map .link
  | .profileCheck => bad.map .profileOf

theorem testFailure_eq (tests : TestSet) (table ring : Option StoreFault) (loop : Option LoopFault)
    (bad : Option ModuleId) (t : SelfTest) : testFailure tests table ring loop bad t =
      if selected tests t then (reasonOf table ring loop bad t).map (t, ·) else none := by
  unfold testFailure
  cases t <;> simp only [reasonOf, Option.map_map] <;> rfl

/-- The results once test `t` has run after those of `r`: its failure joins the set and is the last. -/
def withTest (t : SelfTest) (chosen : Bool) (failure : Option TestReason) (r : TestResults) : TestResults :=
  if chosen && failure.isSome then ⟨r.failed ||| (1#4 <<< testBit t), some t, failure⟩ else r

section Fields

variable (t : SelfTest) (chosen : Bool) (failure : Option TestReason) (r : TestResults)

theorem withTest_failed : (withTest t chosen failure r).failed =
    r.failed ||| (if chosen && failure.isSome then 1#4 <<< testBit t else 0) := by
  unfold withTest
  split
  · rfl
  · exact BitVec.or_zero.symm

theorem withTest_last :
    (withTest t chosen failure r).last = if chosen && failure.isSome then some t else r.last := by
  unfold withTest
  split <;> rfl

theorem withTest_reason :
    (withTest t chosen failure r).reason = if chosen && failure.isSome then failure else r.reason := by
  unfold withTest
  split <;> rfl

end Fields

/-- The results of a run are those of its tests in turn. -/
theorem resultsOf_run (tests : TestSet) (table ring : Option StoreFault) (loop : Option LoopFault)
    (bad : Option ModuleId) (ts : List SelfTest) : resultsOf (ts.filterMap (testFailure tests table ring loop bad)) =
      ts.foldl (fun r t => withTest t (selected tests t) (reasonOf table ring loop bad t) r) .clean := by
  induction ts using List.reverseRecOn with
  | nil => rfl
  | append_singleton ts t ih =>
    rw [List.filterMap_append, List.foldl_append, ← ih]
    simp only [List.filterMap_cons, List.filterMap_nil, List.foldl, testFailure_eq, withTest]
    cases selected tests t with
    | false => simp
    | true =>
      cases reasonOf table ring loop bad t with
      | none => simp
      | some reason => simp [resultsOf_append]

/-! ### The power-up tests complete (R168) -/

/-- The finding that stands for a run, as the statements spell it: a bin's before the completion's own (R170). -/
theorem firstFinding_eq (ofBins ofCompletion : Option StoreFault) : (match ofBins with
      | some f => some f
      | none => ofCompletion) = ofBins.or ofCompletion := by
  cases ofBins <;> rfl

/-- The results of TABLE STORE and RING STORE, in that order. -/
def powerUpResults : Option StoreFault → Option StoreFault → TestResults
  | none, none => .clean
  | some f, none => ⟨1, some .tableStore, some (.store f)⟩
  | none, some g => ⟨2, some .ringStore, some (.store g)⟩
  | some _, some g => ⟨3, some .ringStore, some (.store g)⟩

theorem resultsOf_powerUp (table ring : Option StoreFault) :
    resultsOf (runFailures powerUpTests table ring none none) = powerUpResults table ring := by
  have hrun : resultsOf (runFailures powerUpTests table ring none none) =
      withTest .ringStore true (ring.map .store) (withTest .tableStore true (table.map .store) .clean) :=
    resultsOf_run ..
  rw [hrun]
  cases table <;> cases ring <;> simp [withTest, powerUpResults, TestResults.clean, testBit]

/-- Of the power-up tests TABLE STORE alone takes the device to LOCKDOWN. -/
theorem critical_powerUp (table ring : Option StoreFault) :
    critical (runFailures powerUpTests table ring none none) = table.isSome := by
  cases table <;> cases ring <;> rfl

theorem completePowerUp_eq (table ring : Option StoreFault) (s : State) : completePowerUp table ring s =
    if table.isSome then
      lockedDown .test { s with testResults := powerUpResults table (s.ringFault.or ring), ringFault := none }
    else
      offer (.deviceState .standby (powerUpResults table (s.ringFault.or ring)) s.lockdownCause) { s with
        testResults := powerUpResults table (s.ringFault.or ring), ringFault := none, deviceState := .standby } := by
  rw [← critical_powerUp table (s.ringFault.or ring), ← resultsOf_powerUp, ← enterLockdown_eq_lockedDown]
  rfl

/-- Settles O42: in SELFTEST the power-up tests are in progress; TABLE STORE decides between the two ends, and the results
are those of the two tests. -/
theorem powerUpEndsInStandbyOrLockdown : Obligations.PowerUpEndsInStandbyOrLockdown := by
  intro table ring s hself found
  have hfound : s.ringFault.or ring = found := (firstFinding_eq s.ringFault ring).symm
  have hexec : exec (.powerUpTestsCompletion table ring) s = .next (completePowerUp table ring s) := if_pos hself
  rw [hexec, completePowerUp_eq, hfound]
  clear_value found
  constructor
  · rintro f rfl
    cases found <;> rfl
  · rintro rfl
    cases found <;> rfl

/-! ### A test run completes (R174) -/

/-- A set of tests by its four members. -/
def testSetOf (table ring loop profile : Bool) : TestSet :=
  (if table then 1 else 0) ||| (if ring then 2 else 0) ||| (if loop then 4 else 0) ||| (if profile then 8 else 0)

theorem testSetOf_members (table ring loop profile : Bool) :
    (testSetOf table ring loop profile).getLsbD 0 = table ∧ (testSetOf table ring loop profile).getLsbD 1 = ring ∧
      (testSetOf table ring loop profile).getLsbD 2 = loop ∧
      (testSetOf table ring loop profile).getLsbD 3 = profile := by
  revert table ring loop profile
  decide

/-- The tests that failed, and the last of them with its reason. -/
theorem resultsOf_runFailures (tests : TestSet) (table ring : Option StoreFault) (loop : Option LoopFault)
    (bad : Option ModuleId) :
    let r := resultsOf (runFailures tests table ring loop bad)
    r.failed = testSetOf (tests.getLsbD 0 && table.isSome) (tests.getLsbD 1 && ring.isSome)
      (tests.getLsbD 2 && loop.isSome) (tests.getLsbD 3 && bad.isSome) ∧
    (r.last = if r.failed.getLsbD 3 then some .profileCheck else if r.failed.getLsbD 2 then some .loopback
      else if r.failed.getLsbD 1 then some .ringStore else if r.failed.getLsbD 0 then some .tableStore else none) ∧
    (r.reason = if r.failed.getLsbD 3 then bad.map .profileOf else if r.failed.getLsbD 2 then loop.map .link
      else if r.failed.getLsbD 1 then ring.map .store else if r.failed.getLsbD 0 then table.map .store else none) := by
  intro r
  have hrun : r = withTest .profileCheck (tests.getLsbD 3) (bad.map .profileOf)
      (withTest .loopback (tests.getLsbD 2) (loop.map .link)
        (withTest .ringStore (tests.getLsbD 1) (ring.map .store)
          (withTest .tableStore (tests.getLsbD 0) (table.map .store) .clean))) := resultsOf_run ..
  have hfailed : r.failed = testSetOf (tests.getLsbD 0 && table.isSome) (tests.getLsbD 1 && ring.isSome)
      (tests.getLsbD 2 && loop.isSome) (tests.getLsbD 3 && bad.isSome) := by
    have hclean (x : TestSet) : TestResults.clean.failed ||| x = x := BitVec.zero_or
    rw [hrun]
    simp only [withTest_failed, Option.isSome_map, hclean]
    rfl
  obtain ⟨htable, hring, hloop, hprofile⟩ := testSetOf_members (tests.getLsbD 0 && table.isSome)
    (tests.getLsbD 1 && ring.isSome) (tests.getLsbD 2 && loop.isSome) (tests.getLsbD 3 && bad.isSome)
  rw [hfailed, htable, hring, hloop, hprofile, hrun]
  refine ⟨rfl, ?_, ?_⟩
  · simp only [withTest_last, Option.isSome_map]
    rfl
  · simp only [withTest_reason, Option.isSome_map]
    rfl

theorem lockedDown_longCommand (cause : LockdownCause) (s : State) :
    { lockedDown cause s with longCommand := .none } = lockedDown cause s := by
  have hnone : (lockedDown cause s).longCommand = .none := by rw [lockedDown, offer_longCommand]
  rw [← hnone]

theorem testWord_eq_code (t : Option SelfTest) : testWord t = testCode t := by
  rcases t with _ | ⟨⟩ <;> rfl

section Completion

variable {tests : TestSet} {table ring : Option StoreFault} {loop : Option LoopFault} {s : State} {r : TestResults}
  (hr : resultsOf (runFailures tests table (s.ringFault.or ring) loop (firstMismatch s)) = r)

include hr

/-- The end of a run and its answer, by what failed. -/
theorem completeTestRun_eq {u : State} (hu : { (if r.failed.getLsbD 0 = true ∨ r.failed.getLsbD 3 = true then
        lockedDown .test { s with testResults := r, ringFault := none }
      else { s with testResults := r, ringFault := none, deviceState := .standby }) with longCommand := .none } = u) :
    completeTestRun tests table ring loop s = answered 0x000F (if r.failed = 0 then .done else .failed)
      [r.failed.setWidth 16, testCode r.last, reasonCode r.reason] u := by
  subst hr hu
  rw [← testWord_eq_code, ← testReasonWord_eq_code, ← enterLockdown_eq_lockedDown]
  simp only [← critical_iff, resultsOf_failed_eq_zero]
  rfl

/-- TABLE STORE or PROFILE CHECK failed: LOCKDOWN, which has no long command, before the answer. -/
theorem completeTestRun_lockedDown (h : r.failed.getLsbD 0 = true ∨ r.failed.getLsbD 3 = true) :
    completeTestRun tests table ring loop s = answered 0x000F .failed
      [r.failed.setWidth 16, testCode r.last, reasonCode r.reason]
      (lockedDown .test { s with testResults := r, ringFault := none }) := by
  have hsome : r.failed ≠ 0 := fun hzero => by simp [hzero] at h
  rw [completeTestRun_eq hr (by rw [if_pos h, lockedDown_longCommand]), if_neg hsome]

theorem completeTestRun_standby (h : ¬ (r.failed.getLsbD 0 = true ∨ r.failed.getLsbD 3 = true)) :
    completeTestRun tests table ring loop s = answered 0x000F (if r.failed = 0 then .done else .failed)
      [r.failed.setWidth 16, testCode r.last, reasonCode r.reason]
      { s with testResults := r, ringFault := none, deviceState := .standby, longCommand := .none } :=
  completeTestRun_eq hr (by rw [if_neg h])

end Completion

/-- Settles O43: the results are those of the four tests in turn, and they decide the end and the answer. -/
theorem aTestRunEndsInStandbyOrLockdown : Obligations.ATestRunEndsInStandbyOrLockdown := by
  intro table ring loop tests s hlong found bad failed
  have hfound : s.ringFault.or ring = found := (firstFinding_eq s.ringFault ring).symm
  have hexec : exec (.testRunCompletion table ring loop) s = .next (completeTestRun tests table ring loop s) := by
    show execTestRunCompletion table ring loop s = _
    rw [execTestRunCompletion, hlong]
  obtain ⟨hset, hlast, hreason⟩ := resultsOf_runFailures tests table found loop (firstMismatch s)
  have hfailed : (resultsOf (runFailures tests table found loop (firstMismatch s))).failed = failed := hset
  rw [← hfailed]
  refine ⟨_, rfl, hlast, hreason, ?_⟩
  intro s1 detail outcome
  rw [hexec]
  constructor
  · rintro ⟨htable, hprofile⟩
    have hnone := not_or.mpr ⟨Bool.eq_false_iff.mp htable, Bool.eq_false_iff.mp hprofile⟩
    rw [completeTestRun_standby (by rw [hfound]) hnone]
  · intro hcritical
    rw [completeTestRun_lockedDown (by rw [hfound]) hcritical]

end Sys2Proof.Machine
end

section
/-! ### The check values of the stored profiles (R12, R173, R176) -/

namespace Sys2Proof.Machine

open Sys2Proof.Claim

/-- The first module with a property is the lowest that has it. -/
theorem find_allModules_iff {P : ModuleId → Bool} {m : ModuleId} :
    allModules.find? P = some m ↔ P m = true ∧ ∀ n < m, P n = false := by
  refine ⟨fun h => ?_, fun ⟨hm, hlowest⟩ => find_allModules_lowest hm hlowest⟩
  obtain ⟨hm, before, after, hsplit, hbefore⟩ := List.find?_eq_some_iff_append.mp h
  refine ⟨hm, fun n hn => ?_⟩
  have hordered : (before ++ m :: after).Pairwise (· < ·) := hsplit ▸ (by decide : allModules.Pairwise (· < ·))
  have hmem : n ∈ before ++ m :: after := hsplit ▸ mem_allModules n
  obtain ⟨-, hafter, -⟩ := List.pairwise_append.mp hordered
  rcases List.mem_append.mp hmem with hlower | hlater
  · exact Bool.not_eq_true' _ ▸ hbefore n hlower
  · rcases List.mem_cons.mp hlater with rfl | hhigher
    · exact absurd hn (lt_irrefl _)
    · exact absurd hn (not_lt_of_gt ((List.pairwise_cons.mp hafter).1 n hhigher))

/-- The stored check of module `m` agrees with its profile's words; a module without a profile has nothing to check. -/
def CheckAgrees (s : State) (m : ModuleId) : Prop :=
  ∀ a, (moduleAt s m).active = some a → profileCheck a.words = a.check

theorem checkAgrees_unprofiled {s : State} {m : ModuleId} (h : (moduleAt s m).active = none) : CheckAgrees s m := by
  intro a ha
  exact nomatch h.symm.trans ha

theorem checkAgrees_profiled {s : State} {m : ModuleId} {a : ActiveProfile} (h : (moduleAt s m).active = some a) :
    CheckAgrees s m ↔ profileCheck a.words = a.check := by
  refine ⟨fun hagrees => hagrees a h, fun hcheck b hb => ?_⟩
  obtain rfl := Option.some.inj (h.symm.trans hb)
  exact hcheck

/-- PROFILE CHECK's test of one module. -/
def checkDiffers (s : State) (m : ModuleId) : Bool :=
  match (moduleAt s m).active with
  | some a => profileCheck a.words != a.check
  | none => false

theorem firstMismatch_eq (s : State) : firstMismatch s = allModules.find? (checkDiffers s) := rfl

theorem checkDiffers_eq_false_iff (s : State) (m : ModuleId) : checkDiffers s m = false ↔ CheckAgrees s m := by
  unfold checkDiffers
  split
  · next a ha => rw [checkAgrees_profiled ha, bne_eq_false_iff_eq]
  · next hnone => exact iff_of_true rfl (checkAgrees_unprofiled hnone)

theorem checkDiffers_iff (s : State) (m : ModuleId) : checkDiffers s m = true ↔ ¬ CheckAgrees s m := by
  rw [← checkDiffers_eq_false_iff, Bool.not_eq_false]

theorem firstMismatch_eq_none_iff (s : State) : firstMismatch s = none ↔ ∀ n, CheckAgrees s n := by
  simp only [firstMismatch_eq, List.find?_eq_none, mem_allModules, forall_const, Bool.not_eq_true,
    checkDiffers_eq_false_iff]

theorem firstMismatch_eq_some_iff (s : State) (m : ModuleId) :
    firstMismatch s = some m ↔ ¬ CheckAgrees s m ∧ ∀ n < m, CheckAgrees s n := by
  simp only [firstMismatch_eq, find_allModules_iff, checkDiffers_iff, checkDiffers_eq_false_iff]

theorem completeScrub_agrees {s : State} {m : ModuleId} (h : CheckAgrees s m) :
    completeScrub m s = setScrub m false s := by
  cases ha : (moduleAt s m).active with
  | none => simp only [completeScrub, ha]
  | some a => simp only [completeScrub, ha, if_pos (h a ha)]

theorem completeScrub_differs {s : State} {m : ModuleId} (h : ¬ CheckAgrees s m) :
    completeScrub m s = lockedDown (.scrub m) (setScrub m false s) := by
  cases ha : (moduleAt s m).active with
  | none => exact absurd (checkAgrees_unprofiled ha) h
  | some a =>
    rw [checkAgrees_profiled ha] at h
    simp only [completeScrub, ha, if_neg h, enterLockdown_eq_lockedDown]

/-- Settles O44: PROFILE CHECK and a scrub's completion both turn on the agreement of the check values. -/
theorem theStoredProfilesAreCheckedByTheirCheckValue : Obligations.TheStoredProfilesAreCheckedByTheirCheckValue := by
  intro s agrees
  refine ⟨firstMismatch_eq_none_iff s, fun m => ⟨firstMismatch_eq_some_iff s m, ?_⟩⟩
  intro x s1
  have hexec (hscrub : x.scrub = true) : exec (.scrubCompletion m) s = .next (completeScrub m s) := if_pos hscrub
  refine ⟨fun hscrub hagrees => ?_, fun hscrub hdiffers => ?_⟩
  · rw [hexec hscrub, completeScrub_agrees hagrees]
    rfl
  · rw [hexec hscrub, completeScrub_differs hdiffers]
    rfl

end Sys2Proof.Machine
end

section
/-! ### RUN TESTS (R169, R171) -/

namespace Sys2Proof.Machine

open Sys2Proof.Claim

/-- No path is in a burst and no load is open (R169, test 3). -/
def Quiet (s : State) : Prop := (∀ p, (pathAt s p).burst = none) ∧ s.load = none

theorem not_quiet_iff (s : State) :
    (allPaths.any (fun p => (pathAt s p).burst.isSome) = true ∨ s.load.isSome = true) ↔ ¬ Quiet s := by
  simp only [Quiet, List.any_eq_true, mem_allPaths, true_and, Option.isSome_iff_ne_none, not_and_or, not_forall,
    ne_eq]

section Tests

variable {w : Word} {s : State}

theorem doRunTests_range (h : ¬ (1 ≤ w.toNat ∧ w.toNat ≤ 15)) : doRunTests [w] s = answered 0x000F .range [] s := by
  rw [doRunTests, if_pos (by omega)]
  rfl

variable (hw : 1 ≤ w.toNat ∧ w.toNat ≤ 15)

include hw

theorem doRunTests_state (hd : s.deviceState ≠ .standby) : doRunTests [w] s = answered 0x000F .state [] s := by
  rw [doRunTests, if_neg (by omega), if_pos hd]
  rfl

variable (hd : s.deviceState = .standby)

include hd

theorem doRunTests_busy (h : ¬ Quiet s) : doRunTests [w] s = answered 0x000F .busy [] s := by
  rw [doRunTests, if_neg (by omega), if_neg (not_not_intro hd), if_pos ((not_quiet_iff s).mpr h)]
  rfl

/-- TABLE STORE's bit of the test set decides whether the shadow is emptied. -/
theorem doRunTests_starts (h : Quiet s) : doRunTests [w] s = { s with
    deviceState := .testing, longCommand := .runTests (w.setWidth 4), ringFault := none,
    shadow := if w.getLsbD 0 then .zero else s.shadow,
    shadowState := if w.getLsbD 0 then .empty else s.shadowState } := by
  have htable : selected (w.setWidth 4) .tableStore = w.getLsbD 0 := by simp [selected, testBit]
  rw [doRunTests, if_neg (by omega), if_neg (not_not_intro hd), if_neg fun hbusy => (not_quiet_iff s).mp hbusy h]
  simp only [htable]
  cases w.getLsbD 0 <;> rfl

end Tests

/-- Settles O53: the command is executed, and its tests are made in R169's order. -/
theorem runTestsStartsATestRun : Obligations.RunTestsStartsATestRun := by
  intro w s hexecuting run quiet inRange
  obtain ⟨⟨⟨hon, hempty, hnowait⟩, hroom⟩, hworks, hlong⟩ := hexecuting
  have hrun : run = .next (doRunTests [w] s) := exec_runTests_executed hon hempty hnowait hroom hworks hlong w
  rw [hrun]
  refine ⟨fun hrange => ?_, fun hrange hd => ?_, fun hrange hd hbusy => ?_, fun hrange hd hquiet => ?_⟩
  · rw [doRunTests_range hrange]
  · rw [doRunTests_state hrange hd]
  · rw [doRunTests_busy hrange hd hbusy]
  · rw [doRunTests_starts hrange hd hquiet]

end Sys2Proof.Machine
end

section
/-! ### SOFT RESTART (R70, R175) -/

namespace Sys2Proof.Machine

open Sys2Proof.Claim

/-! ### Truncating one burst, as the path, the output and the modules see it (R70) -/

/-- A path's context once its burst, if it is in one, is truncated. -/
def truncatedPath (mode : CounterMode) (c : PathContext) : PathContext :=
  { c with
    burst := none,
    counters := if c.burst.isSome
      then { c.counters with truncated := growCounter mode c.counters.truncated }
      else c.counters }

theorem truncatedPath_idle {c : PathContext} (h : c.burst = none) (mode : CounterMode) : truncatedPath mode c = c := by
  obtain ⟨enabled, moduleId, trafficClass, reporting, burst, counters⟩ := c
  obtain rfl : burst = none := h
  rfl

theorem truncateBurst_path (p : PathId) (s : State) :
    pathAt (truncateBurst p s) p = truncatedPath s.counterMode (pathAt s p) := by
  cases hb : (pathAt s p).burst with
  | none => rw [truncateBurst_idle hb, truncatedPath_idle hb]
  | some b =>
    rw [truncateBurst_eq_truncated hb, truncated, pathAt_setPathAt_same, truncatedPath, hb]
    rfl

theorem truncateBurst_otherPath {p q : PathId} (h : q ≠ p) (s : State) : pathAt (truncateBurst p s) q = pathAt s q := by
  cases hb : (pathAt s p).burst with
  | none => rw [truncateBurst_idle hb]
  | some b => rw [truncateBurst_eq_truncated hb, truncated, pathAt_setPathAt_other h]; rfl

theorem truncateBurst_output (p : PathId) (s : State) : (truncateBurst p s).forwardOutput =
    s.forwardOutput ++ if (pathAt s p).burst.isSome then [burstCloseFrame p 0] else [] := by
  cases hb : (pathAt s p).burst with
  | none => rw [truncateBurst_idle hb]; exact (List.append_nil _).symm
  | some b => rw [truncateBurst_eq_truncated hb]; rfl

theorem truncateBurst_counterMode (p : PathId) (s : State) : (truncateBurst p s).counterMode = s.counterMode := by
  rw [truncateBurst_writes p s]

/-- A module keeps everything but its accounts. -/
def KeepsButAccounts (x y : ModuleState) : Prop := y = { x with accounts := y.accounts }

theorem KeepsButAccounts.trans {x y z : ModuleState} (h1 : KeepsButAccounts x y) (h2 : KeepsButAccounts y z) :
    KeepsButAccounts x z := by
  unfold KeepsButAccounts at *
  rw [h1] at h2
  exact h2

theorem truncateBurst_module (p : PathId) (s : State) (m : ModuleId) :
    KeepsButAccounts (moduleAt s m) (moduleAt (truncateBurst p s) m) := by
  cases hb : (pathAt s p).burst with
  | none => rw [truncateBurst_idle hb]; rfl
  | some b =>
    rw [truncateBurst_eq_truncated hb, truncated, moduleAt_setPathAt, moduleAt_setModuleAt]
    split
    · next e => subst e; rfl
    · rfl

/-! ### Truncating every burst, in path order (R72, R175) -/

/-- The paths' turns: each path of the list is truncated once, each burst's BURST CLOSE in its turn. -/
theorem foldl_truncateBurst (ps : List PathId) (s : State) (hnodup : ps.Nodup) :
    let t := ps.foldl (fun s p => truncateBurst p s) s
    (∀ p, pathAt t p = if p ∈ ps then truncatedPath s.counterMode (pathAt s p) else pathAt s p) ∧
      t.forwardOutput = s.forwardOutput ++
        (ps.filter fun p => (pathAt s p).burst.isSome).map (fun p => burstCloseFrame p 0) ∧
      ∀ m, KeepsButAccounts (moduleAt s m) (moduleAt t m) := by
  induction ps generalizing s with
  | nil => exact ⟨fun _ => rfl, (List.append_nil _).symm, fun _ => rfl⟩
  | cons q ps ih =>
    obtain ⟨hq, hps⟩ := List.nodup_cons.mp hnodup
    obtain ⟨hpaths, houtput, hmodules⟩ := ih (truncateBurst q s) hps
    refine ⟨fun p => ?_, ?_, fun m => (truncateBurst_module q s m).trans (hmodules m)⟩
    · rw [List.foldl_cons, hpaths, truncateBurst_counterMode]
      by_cases hp : p = q
      · subst hp
        rw [if_neg hq, if_pos (List.mem_cons_self ..), truncateBurst_path]
      · simp only [truncateBurst_otherPath hp, List.mem_cons, hp, false_or]
    · have hsame : (ps.filter fun p => (pathAt (truncateBurst q s) p).burst.isSome) =
          ps.filter fun p => (pathAt s p).burst.isSome :=
        List.filter_congr fun p hp => by rw [truncateBurst_otherPath fun e : p = q => hq (e ▸ hp)]
      rw [List.foldl_cons, houtput, hsame, truncateBurst_output, List.append_assoc, List.filter_cons]
      split <;> rfl

theorem truncateAll_path (s : State) (p : PathId) :
    pathAt (truncateAll s) p = truncatedPath s.counterMode (pathAt s p) := by
  obtain ⟨hpaths, -, -⟩ := foldl_truncateBurst allPaths s (by decide)
  exact (hpaths p).trans (if_pos (mem_allPaths p))

theorem truncateAll_output (s : State) : (truncateAll s).forwardOutput = s.forwardOutput ++
    (allPaths.filter fun p => (pathAt s p).burst.isSome).map (fun p => burstCloseFrame p 0) := by
  obtain ⟨-, houtput, -⟩ := foldl_truncateBurst allPaths s (by decide)
  exact houtput

theorem truncateAll_module (s : State) (m : ModuleId) :
    KeepsButAccounts (moduleAt s m) (moduleAt (truncateAll s) m) := by
  obtain ⟨-, -, hmodules⟩ := foldl_truncateBurst allPaths s (by decide)
  exact hmodules m

theorem truncateAll_keepsAccounts (s : State) : KeepsAccounts s (truncateAll s) :=
  foldl_keepsAccounts (fun u p => truncateBurst_keepsAccounts p u) allPaths s

/-- With no burst in flight exact accounts are 0 (R91). -/
theorem Accounted.accounts_idle {s : State} (h : Accounted s) (hidle : ∀ p, (pathAt s p).burst = none) (m : ModuleId) :
    (moduleAt s m).accounts = ⟨0, 0⟩ := by
  obtain ⟨hweights, hframes⟩ := h.accounts m
  have hweight (p : PathId) : weightHeld (pathAt s p) m = 0 := weightHeld_idle (hidle p) m
  have hframe (p : PathId) : framesToCome (pathAt s p) m = 0 := framesToCome_idle (hidle p) m
  simp only [hweight] at hweights
  simp only [hframe] at hframes
  exact congrArg₂ Accounts.mk hweights hframes

/-! ### The restart -/

/-- The last writes of SOFT RESTART before its answer (R175). -/
def clearedForStandby (u : State) : State := { u with reports := [], reportGap := false, deviceState := .standby }

theorem clearedForStandby_path (u : State) (p : PathId) : pathAt (clearedForStandby u) p = pathAt u p := rfl

theorem clearedForStandby_module (u : State) (m : ModuleId) : moduleAt (clearedForStandby u) m = moduleAt u m := rfl

theorem clearedForStandby_output (u : State) : (clearedForStandby u).forwardOutput = u.forwardOutput := rfl

theorem clearedForStandby_keepsAccounts (u : State) : KeepsAccounts u (clearedForStandby u) :=
  keepsAccounts_of_fields rfl rfl

theorem clearedForStandby_writes {w u : State} (h : OnlyBursts w u) : clearedForStandby u = { w with
    modules := (clearedForStandby u).modules, paths := (clearedForStandby u).paths,
    forwardOutput := (clearedForStandby u).forwardOutput,
    reports := [], reportGap := false, deviceState := .standby } := by
  rw [h]
  rfl

/-- The part as SOFT RESTART leaves it, before its answer. -/
def restarted (s : State) : State := clearedForStandby (truncateAll (workAbandoned s))

theorem doSoftRestart_eq (params : List Word) (s : State) :
    doSoftRestart params s = answered 0x0010 .done (restartDetail s) (restarted s) := by
  rw [restarted, ← abandonAll_eq]
  rfl

theorem exec_softRestart_executed {s : State} (hheard : Heard s)
    (hd : s.deviceState = .standby ∨ s.deviceState = .governing ∨ s.deviceState = .testing) :
    exec (.softRestart []) s = .next (answered 0x0010 .done (restartDetail s) (restarted s)) := by
  obtain ⟨⟨hon, hempty, hnowait⟩, hroom⟩ := hheard
  have hlock : s.deviceState ≠ .lockdown := by rcases hd with hd | hd | hd <;> rw [hd] <;> decide
  have hself : s.deviceState ≠ .selftest := by rcases hd with hd | hd | hd <;> rw [hd] <;> decide
  have hnone : refusalFor s .softRestart [] = none := refusalFor_passes [] hlock hself (.inl rfl)
  rw [← doSoftRestart_eq []]
  exact congrArg Host.Outcome.next (controlArrives_executed hon hempty hnowait hroom hnone rfl)

section Restarted

variable (s : State)

/-- Beyond the work that is abandoned, a restart writes the paths, the modules, the output, the queue and the state. -/
theorem restarted_writes : restarted s = { workAbandoned s with
    modules := (restarted s).modules, paths := (restarted s).paths, forwardOutput := (restarted s).forwardOutput,
    reports := [], reportGap := false, deviceState := .standby } :=
  clearedForStandby_writes (truncateAll_writes (workAbandoned s))

theorem restarted_path (p : PathId) : pathAt (restarted s) p = truncatedPath s.counterMode (pathAt s p) := by
  rw [restarted, clearedForStandby_path, truncateAll_path]
  rfl

theorem restarted_output (h : s.forwardOutput = []) : (restarted s).forwardOutput =
    (allPaths.filter fun p => (pathAt s p).burst.isSome).map (fun p => burstCloseFrame p 0) := by
  have hnone : (workAbandoned s).forwardOutput = [] := h
  rw [restarted, clearedForStandby_output, truncateAll_output, hnone, List.nil_append]
  rfl

theorem workAbandoned_module (m : ModuleId) :
    moduleAt (workAbandoned s) m = { moduleAt s m with scrub := false } := Vector.getElem_map _ m.isLt

theorem restarted_module (m : ModuleId) :
    KeepsButAccounts { moduleAt s m with scrub := false } (moduleAt (restarted s) m) := by
  rw [← workAbandoned_module, restarted, clearedForStandby_module]
  exact truncateAll_module (workAbandoned s) m

theorem restarted_keepsAccounts : KeepsAccounts s (restarted s) := by
  have abandoned : KeepsAccounts s (workAbandoned s) := by
    rw [← abandonAll_eq]
    exact abandonAll_keepsAccounts s
  exact (abandoned.trans (truncateAll_keepsAccounts _)).trans (clearedForStandby_keepsAccounts _)

end Restarted

/-- Settles O54: the work is abandoned as at the entry into LOCKDOWN; then come what the truncation of every burst leaves
of the paths, the output and the modules, and the accounts of a part with no burst in flight. -/
theorem softRestartClearsTheWork : Obligations.SoftRestartClearsTheWork := by
  intro s hheard hd
  have hexec := exec_softRestart_executed hheard hd
  obtain ⟨⟨-, hempty, -⟩, -⟩ := hheard
  have hwrites := restarted_writes s
  have hpath := restarted_path s
  have houtput := restarted_output s hempty
  have hmodule := restarted_module s
  have hkeeps := restarted_keepsAccounts s
  generalize restarted s = t at hexec hwrites hpath houtput hmodule hkeeps
  refine ⟨t, ?_, ?_, ?_, ?_, hpath, houtput, hmodule, fun hbursts haccounts m => ?_⟩
  · rw [hexec, restartDetail]
    cases s.longCommand <;> rfl
  · rw [hwrites]
    rfl
  · rw [hwrites]
    rfl
  · rw [hwrites]
    rfl
  · have accounted : Accounted t := hkeeps.accounted ⟨hbursts, haccounts⟩
    exact accounted.accounts_idle (fun p => by rw [hpath]; rfl) m

end Sys2Proof.Machine
end

section
/-! ### The queue and the passage of time (00 "Timers") -/

namespace Sys2Proof.Machine

/-! ### What a step takes -/

theorem step_front {s : State} {c : Instr} {rest : List Instr} (h : s.pending = c :: rest) :
    step s = exec c { s with pending := rest } := by
  rw [step, h]

theorem step_due {s : State} {c : Instr} (hempty : s.pending = []) (h : dueEvent s = some c) :
    step s = exec c s := by
  rw [step, hempty]
  show idle s = _
  rw [idle, h]

theorem step_notDue {s : State} (hempty : s.pending = []) (h : dueEvent s = none) :
    step s = .next (passTime s) := by
  rw [step, hempty]
  show idle s = _
  rw [idle, h]

/-- Settles O1: the front of the queue decides what a step takes. -/
theorem aStepTakesTheFrontCommand : Obligations.AStepTakesTheFrontCommand := by
  intro c rest s h
  exact step_front h

/-! ### The lowest index whose timer is due

A test `d` of the model stands for a property `P`, and the indices are listed in ascending order. -/

section Lowest

variable {α : Type} {l : List α} {d : α → Bool} {P : α → Prop}

theorem find_none (hd : ∀ a, d a = true ↔ P a) (h : ∀ a, ¬ P a) : l.find? d = none :=
  List.find?_eq_none.mpr fun a _ hdue => h a ((hd a).mp hdue)

theorem find_lowest [Preorder α] (hascending : l.Pairwise (· < ·)) (hall : ∀ a, a ∈ l) (hd : ∀ a, d a = true ↔ P a)
    {a : α} (ha : P a) (hlowest : ∀ b < a, ¬ P b) : l.find? d = some a := by
  obtain ⟨before, after, rfl⟩ := List.append_of_mem (hall a)
  obtain ⟨-, -, hbefore⟩ := List.pairwise_append.mp hascending
  refine List.find?_eq_some_iff_append.mpr ⟨(hd a).mpr ha, before, after, rfl, fun b hb => ?_⟩
  have hnot : ¬ P b := hlowest b (hbefore b hb a (List.mem_cons_self ..))
  rw [Bool.eq_false_iff.mpr fun hdue => hnot ((hd b).mp hdue)]
  rfl

/-- Where the timers of one kind come next in the model's order, the lowest of them that is due expires; with none due,
the kinds after it decide. -/
theorem step_lowestDue [Preorder α] {f : α → Instr} {s : State} {later : Option Instr} (hempty : s.pending = [])
    (hascending : l.Pairwise (· < ·)) (hall : ∀ a, a ∈ l) (hd : ∀ a, d a = true ↔ P a)
    (hdue : dueEvent s = ((l.find? d).map f).or later) :
    (∀ a, P a → (∀ b < a, ¬ P b) → step s = exec (f a) s) ∧ ((∀ a, ¬ P a) → dueEvent s = later) := by
  refine ⟨fun a ha hlowest => step_due hempty ?_, fun hnone => ?_⟩
  · rw [hdue, find_lowest hascending hall hd ha hlowest]
    rfl
  · rw [hdue, find_none hd hnone]
    rfl

end Lowest

theorem allModules_ascending : allModules.Pairwise (· < ·) := by decide

theorem allPaths_ascending : allPaths.Pairwise (· < ·) := by decide

/-! ### The timers that are due, in the model's order (log entry 3) -/

theorem isDue_iff (t : Option Nat) : isDue t = true ↔ t = some 0 := beq_iff_eq

/-- Module `m`'s bin ends now. -/
def binDue (s : State) (m : ModuleId) : Bool := (moduleAt s m).ring.binTimer == 0

def holdDue (s : State) (m : ModuleId) : Bool := isDue (moduleAt s m).throttle.holdTimer

def silenceDue (s : State) (m : ModuleId) : Bool := isDue (moduleAt s m).context.silenceTimer

def graceDue (s : State) (p : PathId) : Bool := isDue ((pathAt s p).burst.map (·.grace))

def gapDue (s : State) : Bool := isDue (s.load.map (·.gapTimer))

section Due

variable (s : State)

theorem binDue_iff (m : ModuleId) : binDue s m = true ↔ (moduleAt s m).ring.binTimer = 0 := beq_iff_eq

theorem holdDue_iff (m : ModuleId) : holdDue s m = true ↔ (moduleAt s m).throttle.holdTimer = some 0 := isDue_iff _

theorem silenceDue_iff (m : ModuleId) : silenceDue s m = true ↔ (moduleAt s m).context.silenceTimer = some 0 :=
  isDue_iff _

theorem graceDue_iff (p : PathId) : graceDue s p = true ↔ (pathAt s p).burst.map (·.grace) = some 0 := isDue_iff _

theorem gapDue_iff : gapDue s = true ↔ s.load.map (·.gapTimer) = some 0 := isDue_iff _

end Due

/-- The due event is the lowest expiry of the first kind of timer that has one. -/
theorem dueEvent_running {s : State} (h : s.deviceState ≠ .offline) : dueEvent s =
    ((allModules.find? (binDue s)).map Instr.binExpiry).or
      (((allModules.find? (holdDue s)).map Instr.holdExpiry).or
        (((allModules.find? (silenceDue s)).map Instr.silenceTimerExpiry).or
          (((allPaths.find? (graceDue s)).map Instr.graceExpiry).or
            (if gapDue s then some .gapTimerExpiry else none)))) := by
  have hgap : (if gapDue s then [Instr.gapTimerExpiry] else []).head? =
      if gapDue s then some .gapTimerExpiry else none := by split <;> rfl
  rw [dueEvent, if_neg h, ← hgap]
  simp only [← List.head?_filter, ← List.head?_map, ← List.head?_append, ← List.append_assoc]
  rfl

/-! ### 125 us pass -/

theorem passTime_eq {s : State} (h : s.deviceState ≠ .offline) : passTime s = { s with
    modules := s.modules.map tickModule, paths := s.paths.map tickPath,
    load := s.load.map fun l => { l with gapTimer := l.gapTimer - 1 } } := by
  simp only [passTime, if_neg h, foldl_setModuleAt_all, foldl_setPathAt_all]

theorem passTime_writes {s : State} (h : s.deviceState ≠ .offline) : passTime s = { s with
    modules := (passTime s).modules, paths := (passTime s).paths, load := (passTime s).load } := by
  rw [passTime_eq h]

theorem passTime_module {s : State} (h : s.deviceState ≠ .offline) (m : ModuleId) :
    moduleAt (passTime s) m = tickModule (moduleAt s m) := by
  rw [passTime_eq h]
  exact Vector.getElem_map tickModule m.isLt

theorem passTime_path {s : State} (h : s.deviceState ≠ .offline) (p : PathId) :
    pathAt (passTime s) p = tickPath (pathAt s p) := by
  rw [passTime_eq h]
  exact Vector.getElem_map tickPath p.isLt

theorem passTime_load {s : State} (h : s.deviceState ≠ .offline) :
    (passTime s).load = s.load.map fun l => { l with gapTimer := l.gapTimer - 1 } := by
  rw [passTime_eq h]

/-- Settles O3: kind by kind, the lowest due timer is the due event, or no timer of the kind is due and the next kind
decides; with none due in any kind, time passes. -/
theorem anEmptyQueueLetsTheDueEventOrTimePass : Obligations.AnEmptyQueueLetsTheDueEventOrTimePass := by
  intro s hempty hon bin hold silence grace gap
  obtain ⟨hbins, hdue⟩ :=
    step_lowestDue hempty allModules_ascending mem_allModules (binDue_iff s) (dueEvent_running hon)
  refine ⟨hbins, fun hbin => ?_⟩
  obtain ⟨hholds, hdue⟩ :=
    step_lowestDue hempty allModules_ascending mem_allModules (holdDue_iff s) (hdue hbin)
  refine ⟨hholds, fun hhold => ?_⟩
  obtain ⟨hsilences, hdue⟩ :=
    step_lowestDue hempty allModules_ascending mem_allModules (silenceDue_iff s) (hdue hhold)
  refine ⟨hsilences, fun hsilence => ?_⟩
  obtain ⟨hgraces, hdue⟩ :=
    step_lowestDue hempty allPaths_ascending mem_allPaths (graceDue_iff s) (hdue hsilence)
  refine ⟨hgraces, fun hgrace => ?_⟩
  have hdue := hdue hgrace
  refine ⟨fun hgap => step_due hempty ?_, fun hgap => ?_⟩
  · rw [hdue, if_pos ((gapDue_iff s).mpr hgap)]
  · rw [if_neg fun h => hgap ((gapDue_iff s).mp h)] at hdue
    exact ⟨passTime s, step_notDue hempty hdue, passTime_writes hon, passTime_module hon, passTime_path hon,
      passTime_load hon⟩

end Sys2Proof.Machine
end

section
/-! ### Events that cannot take place (log entry 13) -/

namespace Sys2Proof.Machine

/-! ### The expiry of a stopped timer -/

theorem exec_graceExpiry_idle {p : PathId} {s : State} (h : (pathAt s p).burst = none) :
    exec (.graceExpiry p) s = .next s := by
  by_cases hoff : s.deviceState = .offline
  · exact if_pos hoff
  · rw [exec_graceExpiry_running hoff, truncateBurst_idle h]

theorem exec_silenceTimerExpiry_stopped {m : ModuleId} {s : State}
    (h : (moduleAt s m).context.silenceTimer = none) : exec (.silenceTimerExpiry m) s = .next s :=
  if_neg fun ⟨_, hruns⟩ => by simp [h] at hruns

theorem exec_holdExpiry_stopped {m : ModuleId} {s : State} (h : (moduleAt s m).throttle.holdTimer = none) :
    exec (.holdExpiry m) s = .next s :=
  if_neg fun ⟨_, hruns⟩ => by simp [h] at hruns

theorem exec_gapTimerExpiry_unopened {s : State} (h : s.load = none) : exec .gapTimerExpiry s = .next s := by
  show execGapTimerExpiry s = _
  rw [execGapTimerExpiry, h]

/-! ### A completion with nothing in progress -/

theorem exec_scrubCompletion_idle {m : ModuleId} {s : State} (h : (moduleAt s m).scrub = false) :
    exec (.scrubCompletion m) s = .next s := if_neg (Bool.eq_false_iff.mp h)

theorem exec_commitCompletion_idle {s : State} (h : ∀ m check, s.longCommand ≠ .commit m check) :
    exec .commitCompletion s = .next s := by
  show execCommitCompletion s = _
  unfold execCommitCompletion
  split
  · next m check hlong => exact absurd hlong (h m check)
  · rfl
  · rfl

theorem exec_powerUpTestsCompletion_idle {s : State} (h : s.deviceState ≠ .selftest)
    (table ring : Option StoreFault) : exec (.powerUpTestsCompletion table ring) s = .next s := if_neg h

theorem exec_testRunCompletion_idle {s : State} (h : ∀ tests, s.longCommand ≠ .runTests tests)
    (table ring : Option StoreFault) (loop : Option LoopFault) :
    exec (.testRunCompletion table ring loop) s = .next s := by
  show execTestRunCompletion table ring loop s = _
  unfold execTestRunCompletion
  split
  · next tests hlong => exact absurd hlong (h tests)
  · rfl
  · rfl

/-- Settles O45: each event's first test finds nothing that could expire or complete. -/
theorem anEventThatCannotHappenChangesNothing : Obligations.AnEventThatCannotHappenChangesNothing := by
  intro s
  refine ⟨?grace, ?silence, ?hold, ?gap, ?scrub, ?commit, fun table ring loop => ⟨?powerUp, ?testRun⟩⟩
  case grace => exact fun p h => exec_graceExpiry_idle h
  case silence => exact fun m h => exec_silenceTimerExpiry_stopped h
  case hold => exact fun m h => exec_holdExpiry_stopped h
  case gap => exact exec_gapTimerExpiry_unopened
  case scrub => exact fun m h => exec_scrubCompletion_idle h
  case commit => exact exec_commitCompletion_idle
  case powerUp => exact fun h => exec_powerUpTestsCompletion_idle h table ring
  case testRun => exact fun h => exec_testRunCompletion_idle h table ring loop

end Sys2Proof.Machine
end
